-- ==== Sys2Proof/Word.lean ====
section
/-! DEFINITION. The widths of the block's data: the byte (00_scope.md R4, R8) and the 6-bit counts
(10_state.md R20, R30). -/

namespace Sys2Proof

/-- The addressable unit and the only datum of the interface (R4, R41). -/
abbrev Byte := BitVec 8

/-- `plen`, `pend`, the `off` port and the `payload_length` port are 6 bits wide (R20, R30, D15). -/
abbrev Count := BitVec 6

end Sys2Proof
end

