-- ==== Sys2Proof/Config.lean ====
section
/-! DEFINITION. The constants the spec fixes (00_scope.md R4), the parameters it leaves open (R5, R7,
R12) and the free values: opaque constants that nothing can evaluate (93_implementation_defined.md). -/

namespace Sys2Proof

namespace Config

/-- `BUF_CAP` of R4: the frame buffer has bytes 0..33. -/
def bufCap : Nat := 34

/-- `MAX_PAYLOAD` of R4. -/
def maxPayload : Nat := 32

/-- `MAX_CKS_INPUT` of R4 (90_conflicts.md C1 keeps it apart from `BUF_CAP`). -/
def maxCksInput : Nat := 33

/-- `LC_MAX_WRITE` of R4. -/
def lcMaxWrite : Nat := 5

/-- `CLASS_MASK` of R4: clears the length code, keeps type and subtype. -/
def classMask : Byte := 0b11000111#8

/-- `LC_LSB` of R4; the field is 3 bits wide (`LC_WIDTH`, the type of `lengthCode`). -/
def lcLsb : Nat := 3

/-- `TYPE_LSB` of R4; the field is 2 bits wide (`TYPE_WIDTH`). -/
def typeLsb : Nat := 6

/-- `SUB_LSB` of R4; the field is 3 bits wide (`SUB_WIDTH`). -/
def subLsb : Nat := 0

/-- The largest legal offset of the payload window (20_memory.md R44, D11). -/
def maxOffset : Nat := 32

/-- Free value: what `plen` holds while it is irrelevant (U2, D16; notes/assumptions/6.md). -/
opaque freePlen : Nat → Count

/-- Free value: what `pend` holds while it is irrelevant (U2, D16; notes/assumptions/6.md). -/
opaque freePend : Nat → Count

/-- Free value: what a read of a never-written buffer byte gives, by draw and index (U3, D10;
notes/assumptions/8.md). -/
opaque freeBufByte : Nat → Nat → Byte

/-- Free value: the `outcome` port where no UPDATE drives it (U8; notes/assumptions/5.md). -/
opaque freeOutcome : Nat → BitVec 3

/-- Free value: the `header_byte` port where no UPDATE drives it (U8; notes/assumptions/5.md). -/
opaque freeHeaderByte : Nat → Byte

/-- Free value: the `payload_length` port where the outcome defines none, or no UPDATE drives it
(U1, U8, D8; notes/assumptions/5.md). -/
opaque freePayloadLength : Nat → Count

/-- Free value: the `dout` port where no PLD_RD drives it (U8; notes/assumptions/5.md). -/
opaque freeDout : Nat → Byte

/-- The external checksum functions (R7, R135, R139): of each nothing is known but that it is a
function of its argument bytes alone (notes/assumptions/2.md). -/
opaque externalChecksum : Nat → List Byte → Byte

end Config

/-- Which checksum function is attached to the block (R7). -/
inductive ChecksumFn where
  /-- The default of R7 and R139, `0xFF xor` every byte [from general knowledge, not in source]. -/
  | xorFF
  /-- Any other function of the argument bytes (notes/assumptions/2.md). -/
  | external (id : Nat)
deriving DecidableEq, Repr

/-- The parameters of the step (R5, R7, R12): the six codes of the header catalogue and the checksum
function. They are no state of the block and no step changes them (notes/assumptions/1.md). -/
structure Params where
  /-- `TYPE_SYS` -/
  typeSys : BitVec 2
  /-- `TYPE_CMD` -/
  typeCmd : BitVec 2
  /-- `SUB_ACK` -/
  subAck : BitVec 3
  /-- `SUB_NACK` -/
  subNack : BitVec 3
  /-- `SUB_SELECT` -/
  subSelect : BitVec 3
  /-- `SUB_WRITE` -/
  subWrite : BitVec 3
  /-- `Checksum` -/
  checksum : ChecksumFn
deriving DecidableEq, Repr

/-- The default parameter values of R5 and R7. PRESUMED: the spec itself marks them as general knowledge, not in source
(93_implementation_defined.md G1, G2; notes/assumptions/1.md, 2.md). Unsafe where a claim fixes them. -/
def Config.defaultParams : Params where
  typeSys := 0b00#2
  typeCmd := 0b01#2
  subAck := 0b100#3
  subNack := 0b010#3
  subSelect := 0b011#3
  subWrite := 0b100#3
  checksum := .xorFF

end Sys2Proof
end

