-- ==== Sys2Proof/Syntax.lean ====
section
/-! DEFINITION. The instructions (one constructor per row of spec/opcode_table.json), the two parser
states, and the port values of one step (10_state.md R30). -/

namespace Sys2Proof

/-- The parser state `st` (R21), "WFH" and "WFP" of R9. Its encoding (0 and 1, D6) is on no port. -/
inductive ParserState where
  /-- WAITING_FOR_HEADER -/
  | wfh
  /-- WAITING_FOR_PAYLOAD_AND_CHECKSUM -/
  | wfp
deriving DecidableEq, Repr

/-- The operations (R67) and the header catalogue (R63). A header row is the UPDATE step that
receives that header byte (notes/assumptions/14.md). -/
inductive Instr where
  /-- SYS_NACK: the header byte `CLASS_NACK` (R82, R104). -/
  | sysNack
  /-- SYS_ACK: the header byte `CLASS_ACK` (R81, R103). -/
  | sysAck
  /-- CMD_SELECT: the header byte `CLASS_SELECT`, payload length 1 (R83, R105). -/
  | cmdSelect
  /-- CMD_WRITE_1: `CLASS_WRITE` with length code 0 (R84, R105). -/
  | cmdWrite1
  /-- CMD_WRITE_2: `CLASS_WRITE` with length code 1. -/
  | cmdWrite2
  /-- CMD_WRITE_4: `CLASS_WRITE` with length code 2. -/
  | cmdWrite4
  /-- CMD_WRITE_8: `CLASS_WRITE` with length code 3. -/
  | cmdWrite8
  /-- CMD_WRITE_16: `CLASS_WRITE` with length code 4. -/
  | cmdWrite16
  /-- CMD_WRITE_32: `CLASS_WRITE` with length code 5. -/
  | cmdWrite32
  /-- UPDATE(b), any byte (R100). -/
  | update (b : Byte)
  /-- RESET (R121). -/
  | reset
  /-- PLD_RD(off) (R123). -/
  | pldRd (off : Count)
  /-- PLD_WR(off, v) (R124). -/
  | pldWr (off : Count) (v : Byte)
deriving DecidableEq, Repr

/-- The input ports of one step (R30). -/
structure PortIn where
  /-- hard reset, wins over any operation (R170) -/
  rst : Bool
  /-- an operation is presented in this step -/
  opValid : Bool
  /-- which operation (R67) -/
  op : BitVec 2
  /-- the byte of UPDATE and of PLD_WR -/
  din : Byte
  /-- the offset of PLD_RD and PLD_WR -/
  off : Count
deriving DecidableEq, Repr

/-- The output ports of one step (R30). A port that does not belong to the step's operation carries a
free value (U8). -/
structure PortOut where
  /-- outcome code (R32), UPDATE only -/
  outcome : BitVec 3
  /-- UPDATE only (R31, R113) -/
  headerByte : Byte
  /-- UPDATE only (R31, R114) -/
  payloadLength : Count
  /-- PLD_RD only -/
  dout : Byte
deriving DecidableEq, Repr

end Sys2Proof
end

