-- ==== Sys2Proof/Machine/Header.lean ====
section
/-! DEFINITION. The header analyzer (40_header_analyzer.md), the fields of the header byte
(30_encoding.md R60 to R62), the class constants (00_scope.md R5, R6) and the checksum function (R7). -/

namespace Sys2Proof

/-- `type = b[7:6]` (R61). -/
def headerType (b : Byte) : BitVec 2 := b.extractLsb' Config.typeLsb 2

/-- `length_code = b[5:3]` (R61). -/
def lengthCode (b : Byte) : BitVec 3 := b.extractLsb' Config.lcLsb 3

/-- `subtype = b[2:0]` (R61). -/
def headerSubtype (b : Byte) : BitVec 3 := b.extractLsb' Config.subLsb 3

/-- `sanitized_class = b & 0xC7` (R61). -/
def sanitizedClass (b : Byte) : Byte := b &&& Config.classMask

/-- `(type << 6) | subtype`, the class constant of a type and a subtype (R5). -/
def classOf (t : BitVec 2) (sub : BitVec 3) : Byte :=
  (t.setWidth 8 <<< Config.typeLsb) ||| (sub.setWidth 8 <<< Config.subLsb)

/-- `CLASS_ACK` (R5). -/
def Params.classAck (p : Params) : Byte := classOf p.typeSys p.subAck

/-- `CLASS_NACK` (R5). -/
def Params.classNack (p : Params) : Byte := classOf p.typeSys p.subNack

/-- `CLASS_SELECT` (R5). -/
def Params.classSelect (p : Params) : Byte := classOf p.typeCmd p.subSelect

/-- `CLASS_WRITE` (R5). -/
def Params.classWrite (p : Params) : Byte := classOf p.typeCmd p.subWrite

/-- The header byte of a CMD WRITE frame with length code `lc`: `CLASS_WRITE | (lc << 3)` (R70). -/
def Params.writeHeader (p : Params) (lc : BitVec 3) : Byte :=
  p.classWrite ||| (lc.setWidth 8 <<< Config.lcLsb)

/-- The constraint of R6: the four class constants are pairwise distinct. -/
abbrev Params.Distinct (p : Params) : Prop :=
  [p.classAck, p.classNack, p.classSelect, p.classWrite].Nodup

/-- `payload_length = 1 << length_code` (R62). -/
def lengthOfCode (lc : BitVec 3) : Count := 1#6 <<< lc.toNat

/-- The header classification record (R26, R80). `payloadLength` is produced for a valid byte only
(D17), so `valid` is whether it is there. -/
structure HeaderClass where
  sanitizedClass : Byte
  payloadLength : Option Count
deriving DecidableEq, Repr

/-- The field `valid` of the classification record (R80). -/
def HeaderClass.valid (c : HeaderClass) : Bool := c.payloadLength.isSome

/-- `classify(b)`, the header analyzer (R86). -/
def classify (p : Params) (b : Byte) : HeaderClass :=
  let lc := lengthCode b
  let cls := sanitizedClass b
  if cls = p.classAck then ⟨cls, if lc = 0#3 then some 0#6 else none⟩
  else if cls = p.classNack then ⟨cls, if lc = 0#3 then some 0#6 else none⟩
  else if cls = p.classSelect then ⟨cls, if lc = 0#3 then some 1#6 else none⟩
  else if cls = p.classWrite then
    ⟨cls, if lc.toNat ≤ Config.lcMaxWrite then some (lengthOfCode lc) else none⟩
  else ⟨cls, none⟩

/-- The nine header bytes of the catalogue (R63), in the order of spec/opcode_table.json. -/
def catalogueBytes (p : Params) : List Byte :=
  [p.classNack, p.classAck, p.classSelect, p.writeHeader 0#3, p.writeHeader 1#3, p.writeHeader 2#3,
    p.writeHeader 3#3, p.writeHeader 4#3, p.writeHeader 5#3]

/-- `Checksum(seq)` (R7, R135): the default function of R139, or an external one. -/
def ChecksumFn.eval (f : ChecksumFn) (bytes : List Byte) : Byte :=
  match f with
  | .xorFF => bytes.foldl (fun acc x => acc ^^^ x) 0xFF#8
  | .external n => Config.externalChecksum n bytes

end Sys2Proof
end

