-- ==== Sys2Proof/WellFormed.lean ====
section
/-! DEFINITION. Which instructions the input ports can present, and in which parser state. -/

namespace Sys2Proof

/-- The legal offsets of the payload window are 0..32 (20_memory.md R44, R45). -/
def offsetLegal (off : Count) : Bool := off.toNat ≤ Config.maxOffset

/-- The instruction is the one the ports stand for in parser state `st`. In WFH a byte is decoded as a
header, so an UPDATE of a catalogue byte is that byte's own row; in WFP no byte is decoded, so no row
of the catalogue occurs (30_encoding.md R71; notes/assumptions/15.md). -/
def WellFormed (p : Params) (st : ParserState) (i : Instr) : Bool :=
  match i with
  | .sysNack | .sysAck | .cmdSelect | .cmdWrite1 | .cmdWrite2 | .cmdWrite4 | .cmdWrite8
  | .cmdWrite16 | .cmdWrite32 => st = .wfh
  | .update b => st = .wfp || !(classify p b).valid
  | .reset => true
  | .pldRd off => offsetLegal off
  | .pldWr off _ => offsetLegal off

end Sys2Proof
end

