-- ==== Sys2Proof/Decode.lean ====
section
/-! DEFINITION. From the input ports to an instruction (30_encoding.md R63, R67, R71), total on all port
values and rejecting by name; the encoder; and the table's numbering of the words. -/

namespace Sys2Proof

/-- Why the decoder rejects port values. -/
inductive DecodeReject where
  /-- PLD_RD or PLD_WR with `off` in 33..63, the only encodings without a meaning (R45, R67). -/
  | offsetOutsideWindow (off : Count)
deriving DecidableEq, Repr

/-- The six CMD WRITE rows by length code; the codes 6 and 7 have none (R62, R63). -/
def writeRow (lc : BitVec 3) : Option Instr :=
  if lc = 0#3 then some .cmdWrite1
  else if lc = 1#3 then some .cmdWrite2
  else if lc = 2#3 then some .cmdWrite4
  else if lc = 3#3 then some .cmdWrite8
  else if lc = 4#3 then some .cmdWrite16
  else if lc = 5#3 then some .cmdWrite32
  else none

/-- The row of the catalogue that a header byte belongs to, if any (R63, R65). -/
def headerRow (p : Params) (b : Byte) : Option Instr :=
  let lc := lengthCode b
  let cls := sanitizedClass b
  if cls = p.classAck then (if lc = 0#3 then some .sysAck else none)
  else if cls = p.classNack then (if lc = 0#3 then some .sysNack else none)
  else if cls = p.classSelect then (if lc = 0#3 then some .cmdSelect else none)
  else if cls = p.classWrite then writeRow lc
  else none

/-- What an UPDATE of byte `b` is decoded as: in WFH a header (R63), in WFP just a byte (R71). -/
def decodeUpdate (p : Params) (st : ParserState) (b : Byte) : Instr :=
  match st with
  | .wfh => (headerRow p b).getD (.update b)
  | .wfp => .update b

/-- The operation the ports select (R67). Ports an operation does not use are ignored (D22). -/
def decode (p : Params) (st : ParserState) (q : PortIn) : Except DecodeReject Instr :=
  if q.op = 0b00#2 then .ok (decodeUpdate p st q.din)
  else if q.op = 0b01#2 then .ok .reset
  else if q.op = 0b10#2 then
    if offsetLegal q.off then .ok (.pldRd q.off) else .error (.offsetOutsideWindow q.off)
  else
    if offsetLegal q.off then .ok (.pldWr q.off q.din) else .error (.offsetOutsideWindow q.off)

/-- Port values that present an operation: `op_valid` = 1, `rst` = 0 (R30). -/
def present (op : BitVec 2) (din : Byte) (off : Count) : PortIn :=
  { rst := false, opValid := true, op := op, din := din, off := off }

/-- The port values of UPDATE(b) (R69, `UPD`). -/
def presentUpdate (b : Byte) : PortIn := present 0b00#2 b 0#6

/-- The encoder: the port values of an instruction (R63, R67), unused ports 0. -/
def encode (p : Params) (i : Instr) : PortIn :=
  match i with
  | .sysNack => presentUpdate p.classNack
  | .sysAck => presentUpdate p.classAck
  | .cmdSelect => presentUpdate p.classSelect
  | .cmdWrite1 => presentUpdate (p.writeHeader 0#3)
  | .cmdWrite2 => presentUpdate (p.writeHeader 1#3)
  | .cmdWrite4 => presentUpdate (p.writeHeader 2#3)
  | .cmdWrite8 => presentUpdate (p.writeHeader 3#3)
  | .cmdWrite16 => presentUpdate (p.writeHeader 4#3)
  | .cmdWrite32 => presentUpdate (p.writeHeader 5#3)
  | .update b => presentUpdate b
  | .reset => present 0b01#2 0#8 0#6
  | .pldRd off => present 0b10#2 0#8 off
  | .pldWr off v => present 0b11#2 v off

/-- Whether a table word is a word of format OP. The table numbers two formats from bit 0: a header
byte (8 bits) and an `op` code (2 bits). A word of fewer than 8 bits is an `op` code. A word of a whole
byte is one when it is 0 to 3 and no header of the catalogue (notes/assumptions/16.md). -/
def isOpWord (nbits w : Nat) : Bool :=
  nbits < 8 || (w < 4 && (headerRow Config.defaultParams (BitVec.ofNat 8 w)).isNone)

/-- The port values that a table word stands for: an `op` code with zero operands, or a header byte on
`din` of an UPDATE. -/
def tablePort (nbits w : Nat) : PortIn :=
  if isOpWord nbits w then present (BitVec.ofNat 2 w) 0#8 0#6
  else presentUpdate (BitVec.ofNat 8 w)

/-- The instruction the decoder reads from a word as spec/opcode_table.json numbers it, in the parser
state after reset and with the table's own (default) catalogue. -/
def decodeTableWord (nbits w : Nat) : Option Instr :=
  match decode Config.defaultParams .wfh (tablePort nbits w) with
  | .ok i => some i
  | .error _ => none

end Sys2Proof
end

