-- ==== Sys2Proof/Machine/State.lean ====
section
/-! DEFINITION. The state (10_state.md R20), the reasons a step can stop, the seven outcomes (R32) and
the machine right after reset (R33). -/

namespace Sys2Proof.Machine

/-- The frame buffer as (index, byte) pairs: an index that is not listed holds "no value" (nothing has
written it since hard reset: R33, D10; notes/assumptions/8.md). Its form is `Memory.wf`. -/
abbrev Memory := List Host.Cell

/-- The seven outcomes of an UPDATE (R32), in the source's order. -/
inductive ParseOutcome where
  /-- INSUFFICIENT_DATA, the only outcome that is not terminal -/
  | insufficientData
  /-- RECEIVED_INVALID_HEADER -/
  | receivedInvalidHeader
  /-- RECEIVED_SYS_ACK -/
  | receivedSysAck
  /-- RECEIVED_SYS_NACK -/
  | receivedSysNack
  /-- RECEIVED_CMD_SELECT -/
  | receivedCmdSelect
  /-- RECEIVED_CMD_WRITE -/
  | receivedCmdWrite
  /-- RECEIVED_CMD_INVALID_FCS -/
  | receivedCmdInvalidFcs
deriving DecidableEq, Repr

/-- The faults. The block itself has none (R150); each stands for a point that no reachable state
reaches (notes/assumptions/13.md). -/
inductive Fault where
  /-- Raised by UPDATE in WFH at the third arm of the SYS dispatch, `assert_unreachable` of R117 (U4).
  Safe: no state at all reaches it. -/
  | unrecognizedSysSubtype
  /-- Raised by UPDATE in WFP on a frame's last byte at the third arm of the SELECT/WRITE dispatch,
  `assert_unreachable` of R117 (U4). Safe: INV3 of R25 rules it out. -/
  | unrecognizedCmdSubtype
  /-- Raised by UPDATE in WFP when the counters give no write index in 1..33. Safe: INV1 and INV2 of R25
  rule it out. -/
  | cursorOutsideBuffer
deriving DecidableEq, Repr

/-- The refusals. -/
inductive Refusal where
  /-- Raised by `exec` for an instruction without a meaning. Safe; no arm answers it. -/
  | notModelled (mnemonic : String)
  /-- Raised by PLD_RD and PLD_WR (and by their decoding) for an offset in 33..63, which R45 asks a
  model to refuse (notes/assumptions/11.md). Safe. -/
  | offsetOutsideWindow (off : Count)
deriving DecidableEq, Repr

/-- The state. The first four fields are the whole architectural state of R20; the others are the
model's own (INVENTORY.md). -/
structure State where
  /-- the parser state (R21) -/
  st : ParserState
  /-- the payload length of the CMD frame being accumulated (R22) -/
  plen : Count
  /-- how many bytes of that frame are still to come, checksum byte included (R23) -/
  pend : Count
  /-- the frame buffer (R24) -/
  buf : Memory
  /-- MODEL: the parameters of the step (R12), changed by no step (notes/assumptions/1.md) -/
  par : Params
  /-- MODEL: what the input ports will carry in the coming steps (notes/assumptions/3.md) -/
  inputs : List PortIn
  /-- MODEL: what the last step drove on the output ports; no step reads it (notes/assumptions/4.md) -/
  out : PortOut
  /-- MODEL: the counter of the free values (notes/assumptions/5.md) -/
  draws : Nat
deriving DecidableEq, Repr

/-- The machine right after hard reset (R33, R170): `st` WFH, no buffer byte written. The spec gives
`plen`, `pend` no reset value: DESIGN CHOICE 0 (notes/assumptions/7.md). The parameters are the
defaults of R5 and R7, PRESUMED (notes/assumptions/1.md). `inputs`, `out`, `draws`: DESIGN CHOICE
(notes/assumptions/9.md). -/
def State.reset : State where
  st := .wfh
  plen := 0#6
  pend := 0#6
  buf := []
  par := Config.defaultParams
  inputs := []
  out := { outcome := 0#3, headerByte := 0#8, payloadLength := 0#6, dout := 0#8 }
  draws := 0

end Sys2Proof.Machine
end

