-- ==== Sys2Proof/Machine/Flags.lean ====
section
/-! DEFINITION. The block has no flags (10_state.md R27). What it reports instead is the result record
of UPDATE (R31, R32; 41_update.md R113, R114): its codes and its ports. -/

namespace Sys2Proof.Machine

/-- The code of an outcome on the `outcome` port (R32, D5). Code 7 is never produced. -/
def ParseOutcome.code (o : ParseOutcome) : BitVec 3 :=
  match o with
  | .insufficientData => 0#3
  | .receivedInvalidHeader => 1#3
  | .receivedSysAck => 2#3
  | .receivedSysNack => 3#3
  | .receivedCmdSelect => 4#3
  | .receivedCmdWrite => 5#3
  | .receivedCmdInvalidFcs => 6#3

/-- The three outcomes for which `payload_length` is defined (R31, R114). -/
def ParseOutcome.definesLength (o : ParseOutcome) : Bool :=
  match o with
  | .receivedCmdSelect | .receivedCmdWrite | .receivedCmdInvalidFcs => true
  | .insufficientData | .receivedInvalidHeader | .receivedSysAck | .receivedSysNack => false

/-- A terminal outcome is any but INSUFFICIENT_DATA (00_scope.md glossary, D24). -/
def ParseOutcome.terminal (o : ParseOutcome) : Bool := o ≠ .insufficientData

/-- The output ports where nothing is defined: every port carries a free value (U8). -/
def undefinedOut (n : Nat) : PortOut where
  outcome := Config.freeOutcome n
  headerByte := Config.freeHeaderByte n
  payloadLength := Config.freePayloadLength n
  dout := Config.freeDout n

/-- The result record of UPDATE on the ports (R31): the outcome, the header byte, and `plen` where the
outcome defines a length, else a free value (R114, U1). -/
def updateOut (o : ParseOutcome) (header : Byte) (plen : Count) (n : Nat) : PortOut :=
  { undefinedOut n with
    outcome := o.code
    headerByte := header
    payloadLength := if o.definesLength then plen else Config.freePayloadLength n }

/-- The output of PLD_RD on the ports (R30, R123). -/
def readOut (v : Byte) (n : Nat) : PortOut := { undefinedOut n with dout := v }

end Sys2Proof.Machine
end

