-- ==== Sys2Proof/Machine/Operands.lean ====
section
/-! DEFINITION. The effective buffer index of every operand form: the host window (20_memory.md R44,
R45) and the write cursor (10_state.md R28). Index 0, the header, needs no computation. -/

namespace Sys2Proof.Machine

/-- The buffer index of a window offset: `1 + off` for 0..32, none for 33..63 (R44, R45). -/
def windowIndex (off : Count) : Option Nat :=
  if offsetLegal off then some (1 + off.toNat) else none

/-- The buffer index the next UPDATE in WFP writes: `plen + 2 - pend`, `pend` before the decrement
(R28), in exact arithmetic (R116). None where the counters are not those of INV1 and INV2 (R25) and give no index in 1..33. -/
def writeCursor (plen pend : Count) : Option Nat :=
  if 1 ≤ pend.toNat ∧ pend.toNat ≤ plen.toNat + 1 ∧ plen.toNat + 2 - pend.toNat < Config.bufCap then
    some (plen.toNat + 2 - pend.toNat)
  else none

end Sys2Proof.Machine
end

