-- ==== Sys2Proof/Machine/Ops.lean ====
section
/-! DEFINITION. The named operations over the buffer and the registers, the two endings of an UPDATE,
hard reset, the idle step and the taking of the next port values. -/

namespace Sys2Proof.Machine

/-- The byte at an index; none where nothing has written it since hard reset (D10). -/
def Memory.read : Memory → Nat → Option Byte
  | [], _ => none
  | (k, v) :: m, a => if a = k then some v else Memory.read m a

/-- Store a byte at an index, keeping the list sorted by index without repeats. -/
def Memory.write : Memory → Nat → Byte → Memory
  | [], a, v => [(a, v)]
  | (k, w) :: m, a, v =>
    if a < k then (a, v) :: (k, w) :: m
    else if a = k then (a, v) :: m
    else (k, w) :: Memory.write m a v

/-- The canonical form: indices strictly rising, all of them in the buffer (R24, R53). An unlisted
index holds no value, so no entry can equal what it reads as. -/
abbrev Memory.wf (m : Memory) : Prop :=
  m.Pairwise (fun x y => x.1 < y.1) ∧ ∀ x ∈ m, x.1 < Config.bufCap

/-- `buf[i]` as every operation reads it: the byte, or a free value where nothing has written it (U3,
D10; notes/assumptions/8.md). -/
def State.readBuf (s : State) (i : Nat) : Byte :=
  (s.buf.read i).getD (Config.freeBufByte s.draws i)

/-- `buf[i] <- v`. -/
def State.writeBuf (s : State) (i : Nat) (v : Byte) : State := { s with buf := s.buf.write i v }

/-- `buf[0..n]`, n + 1 bytes in ascending index order (R9, R136). -/
def State.bufUpTo (s : State) (n : Nat) : List Byte := (List.range (n + 1)).map s.readBuf

/-- `Checksum(buf[0..plen])` (R108, R136). -/
def State.computedChecksum (s : State) : Byte := s.par.checksum.eval (s.bufUpTo s.plen.toNat)

/-- The end of an UPDATE: the result record goes to the output ports, `header_byte` being `buf[0]` as
it stands then (R113, R114). -/
def State.conclude (s : State) (o : ParseOutcome) : State :=
  { s with out := updateOut o (s.readBuf 0) s.plen s.draws, draws := s.draws + 1 }

/-- The end of an UPDATE that leaves the block in WFH. It is all there is of "trap entry": nothing is
saved, control goes nowhere, and no return exists (R112, R157, R158). In WFH `plen` and `pend` are
irrelevant: free values (U2, D16). -/
def State.concludeWfh (s : State) (o : ParseOutcome) : State :=
  { s.conclude o with
    st := .wfh
    plen := Config.freePlen s.draws
    pend := Config.freePend s.draws }

/-- The counters and the state that a valid CMD header of payload length `len` sets (R105). -/
def State.openFrame (s : State) (len : Count) : State :=
  { s with st := .wfp, plen := len, pend := len + 1#6 }

/-- The end of a step that defines no output: every port carries a free value (R30, U8). -/
def State.silent (s : State) : State :=
  { s with out := undefinedOut s.draws, draws := s.draws + 1 }

/-- Hard reset (R170, R33): `st` WFH, `plen`, `pend` and every buffer byte unspecified, no output. -/
def State.hardReset (s : State) : State :=
  { s.silent with
    st := .wfh
    plen := Config.freePlen s.draws
    pend := Config.freePend s.draws
    buf := [] }

/-- What the ports present in one step (R30, R170). -/
inductive Presented where
  /-- `rst` = 1: it overrides any operation -/
  | hardReset
  /-- `op_valid` = 0 and `rst` = 0, also where the host presents nothing more -/
  | idle
  /-- an operation with its port values -/
  | operation (q : PortIn)
deriving DecidableEq, Repr

/-- What a step's port values present; `rst` is looked at first (R156, R170). -/
def presented (q : PortIn) : Presented :=
  if q.rst then .hardReset
  else if q.opValid then .operation q
  else .idle

/-- What the coming step is presented with. -/
def State.fetch (s : State) : Presented :=
  match s.inputs with
  | [] => .idle
  | q :: _ => presented q

/-- The state once the coming step's port values are taken. -/
def State.popInput (s : State) : State := { s with inputs := s.inputs.tail }

/-- The refusal that a rejected decoding becomes. -/
def refusalOf (r : DecodeReject) : Refusal :=
  match r with
  | .offsetOutsideWindow off => .offsetOutsideWindow off

end Sys2Proof.Machine
end

