-- ==== Sys2Proof/Machine/Access.lean ====
section
/-! DEFINITION. RESET and the payload access operations (42_reset_and_payload_access.md). -/

namespace Sys2Proof.Machine

/-- RESET (R121): `st` WFH, the counters discarded (free values, U2), the buffer unchanged, no output. -/
def execReset (s : State) : Host.Outcome State Fault Refusal :=
  .next { s.silent with
    st := .wfh
    plen := Config.freePlen s.draws
    pend := Config.freePend s.draws }

/-- PLD_RD(off) (R123): `dout <- buf[1 + off]`, no state changes; an offset above 32 is refused (R45). -/
def execPldRd (off : Count) (s : State) : Host.Outcome State Fault Refusal :=
  match windowIndex off with
  | none => .refused (.offsetOutsideWindow off)
  | some i => .next { s with out := readOut (s.readBuf i) s.draws, draws := s.draws + 1 }

/-- PLD_WR(off, v) (R124): `buf[1 + off] <- v`, no output; an offset above 32 is refused (R45). -/
def execPldWr (off : Count) (v : Byte) (s : State) : Host.Outcome State Fault Refusal :=
  match windowIndex off with
  | none => .refused (.offsetOutsideWindow off)
  | some i => .next (s.writeBuf i v).silent

end Sys2Proof.Machine
end

