-- ==== Sys2Proof/Machine/Update.lean ====
section
/-! DEFINITION. UPDATE (41_update.md R100 to R120): the state machine, the byte accumulator and the
checksum check, shared by the operation UPDATE and by the rows of the header catalogue. -/

namespace Sys2Proof.Machine

/-- UPDATE(b) in WFH (R101 to R105): the byte is stored at index 0 whether or not it is valid, and
classified. -/
def updateHeader (b : Byte) (s : State) : Host.Outcome State Fault Refusal :=
  let c := classify s.par b
  let s1 := s.writeBuf 0 b
  match c.payloadLength with
  | none => .next (s1.concludeWfh .receivedInvalidHeader)
  | some len =>
    if len = 0#6 then
      if c.sanitizedClass = s.par.classAck then .next (s1.concludeWfh .receivedSysAck)
      else if c.sanitizedClass = s.par.classNack then .next (s1.concludeWfh .receivedSysNack)
      else .fault .unrecognizedSysSubtype
    else .next ((s1.openFrame len).conclude .insufficientData)

/-- The last byte of a CMD frame, once it is stored at `plen + 1` (R108 to R112): the checksum is
compared first, the SELECT/WRITE distinction is made only on a match (R156). -/
def finishFrame (s : State) : Host.Outcome State Fault Refusal :=
  if s.computedChecksum ≠ s.readBuf (s.plen.toNat + 1) then
    .next (s.concludeWfh .receivedCmdInvalidFcs)
  else if sanitizedClass (s.readBuf 0) = s.par.classSelect then
    .next (s.concludeWfh .receivedCmdSelect)
  else if sanitizedClass (s.readBuf 0) = s.par.classWrite then
    .next (s.concludeWfh .receivedCmdWrite)
  else .fault .unrecognizedCmdSubtype

/-- The store and the count of an UPDATE in WFP (R106): `buf[i] <- b`, `pend <- pend - 1`. -/
def State.accumulate (s : State) (i : Nat) (b : Byte) : State :=
  { s.writeBuf i b with pend := s.pend - 1#6 }

/-- UPDATE(b) in WFP (R106 to R112): the byte is stored at the write cursor, unexamined. -/
def updatePayload (b : Byte) (s : State) : Host.Outcome State Fault Refusal :=
  match writeCursor s.plen s.pend with
  | none => .fault .cursorOutsideBuffer
  | some i =>
    let s1 := s.accumulate i b
    if s1.pend = 0#6 then finishFrame s1
    else .next (s1.conclude .insufficientData)

/-- UPDATE(b): the case is chosen by `st` (R100). -/
def updateByte (b : Byte) (s : State) : Host.Outcome State Fault Refusal :=
  match s.st with
  | .wfh => updateHeader b s
  | .wfp => updatePayload b s

/-- UPDATE (R100, R120). -/
def execUpdate (b : Byte) (s : State) : Host.Outcome State Fault Refusal := updateByte b s

end Sys2Proof.Machine
end

