-- ==== Sys2Proof/Machine/HeaderRows.lean ====
section
/-! DEFINITION. The rows of the header catalogue (30_encoding.md R63): each is the UPDATE that receives
the row's header byte (notes/assumptions/14.md). What follows in its frame are UPDATEs of their own. -/

namespace Sys2Proof.Machine

/-- SYS_NACK (R82, R104). -/
def execSysNack (s : State) : Host.Outcome State Fault Refusal := updateByte s.par.classNack s

/-- SYS_ACK (R81, R103). -/
def execSysAck (s : State) : Host.Outcome State Fault Refusal := updateByte s.par.classAck s

/-- CMD_SELECT (R83, R105). -/
def execCmdSelect (s : State) : Host.Outcome State Fault Refusal := updateByte s.par.classSelect s

/-- CMD_WRITE_1 (R84, R105). -/
def execCmdWrite1 (s : State) : Host.Outcome State Fault Refusal :=
  updateByte (s.par.writeHeader 0#3) s

/-- CMD_WRITE_2 (R84, R105). -/
def execCmdWrite2 (s : State) : Host.Outcome State Fault Refusal :=
  updateByte (s.par.writeHeader 1#3) s

/-- CMD_WRITE_4 (R84, R105). -/
def execCmdWrite4 (s : State) : Host.Outcome State Fault Refusal :=
  updateByte (s.par.writeHeader 2#3) s

/-- CMD_WRITE_8 (R84, R105). -/
def execCmdWrite8 (s : State) : Host.Outcome State Fault Refusal :=
  updateByte (s.par.writeHeader 3#3) s

/-- CMD_WRITE_16 (R84, R105). -/
def execCmdWrite16 (s : State) : Host.Outcome State Fault Refusal :=
  updateByte (s.par.writeHeader 4#3) s

/-- CMD_WRITE_32 (R84, R105). -/
def execCmdWrite32 (s : State) : Host.Outcome State Fault Refusal :=
  updateByte (s.par.writeHeader 5#3) s

end Sys2Proof.Machine
end

