-- ==== Sys2Proof/Machine/Dispatch.lean ====
section
/-! DEFINITION. One arm per instruction (00_scope.md R10, 30_encoding.md R63, R67). -/

namespace Sys2Proof.Machine

-- The meaning of every instruction, one direct call each.
def exec (i : Instr) (s : State) : Host.Outcome State Fault Refusal :=
  match i with
  | .sysNack => Sys2Proof.Machine.execSysNack s
  | .sysAck => Sys2Proof.Machine.execSysAck s
  | .cmdSelect => Sys2Proof.Machine.execCmdSelect s
  | .cmdWrite1 => Sys2Proof.Machine.execCmdWrite1 s
  | .cmdWrite2 => Sys2Proof.Machine.execCmdWrite2 s
  | .cmdWrite4 => Sys2Proof.Machine.execCmdWrite4 s
  | .cmdWrite8 => Sys2Proof.Machine.execCmdWrite8 s
  | .cmdWrite16 => Sys2Proof.Machine.execCmdWrite16 s
  | .cmdWrite32 => Sys2Proof.Machine.execCmdWrite32 s
  | .update b => Sys2Proof.Machine.execUpdate b s
  | .reset => Sys2Proof.Machine.execReset s
  | .pldRd off => Sys2Proof.Machine.execPldRd off s
  | .pldWr off v => Sys2Proof.Machine.execPldWr off v s

end Sys2Proof.Machine
end

