-- ==== Sys2Proof/Machine/Step.lean ====
section
/-! DEFINITION. One step of the block (00_scope.md R10, 10_state.md R30, 70_reset_and_hazards.md R170). -/

namespace Sys2Proof.Machine

/-- One step: the coming port values are taken; a hard reset overrides any operation (R156, R170), an
idle step changes nothing of the block (R30), an operation is decoded in the state `st` (R71) and run. -/
def step (s : State) : Host.Outcome State Fault Refusal :=
  match s.fetch with
  | .hardReset => .next s.popInput.hardReset
  | .idle => .next s.popInput.silent
  | .operation q =>
    match decode s.par s.st q with
    | .ok i => exec i s.popInput
    | .error r => .refused (refusalOf r)

/-- `s` with the instruction of a table word presented to the very next step. -/
def State.withFetchWord (s : State) (nbits w : Nat) : State :=
  { s with inputs := tablePort nbits w :: s.inputs }

end Sys2Proof.Machine
end

