-- ==== Sys2Proof/Machine/Frame.lean ====
section
/-! DEFINITION. The notation of 30_encoding.md R69 as port values, and its pseudo-operations (R70): the
byte sequences of well-formed and of corrupted frames (R66). They describe the sender and what the
host feeds; the block does not contain them. -/

namespace Sys2Proof.Machine

/-- `RST` (R69). -/
def presentReset : PortIn := present 0b01#2 0#8 0#6

/-- `PRD k` (R69). -/
def presentRead (off : Count) : PortIn := present 0b10#2 0#8 off

/-- `PWR k, v` (R69). -/
def presentWrite (off : Count) (v : Byte) : PortIn := present 0b11#2 v off

/-- `HRST` (R69): hard reset, not an operation. -/
def presentHardReset : PortIn := { present 0b00#2 0#8 0#6 with rst := true, opValid := false }

/-- A step in which no operation is presented (R30). -/
def presentIdle : PortIn := { present 0b00#2 0#8 0#6 with opValid := false }

/-- One `UPD` a byte. -/
def feed (bytes : List Byte) : List PortIn := bytes.map presentUpdate

/-- A CMD frame (R66): header, payload, and the checksum of the two moved by `d` modulo 256; `d` = 0
is the well-formed frame, any other `d` a corrupted one (R70, R140). -/
def cmdFrame (p : Params) (header : Byte) (payload : List Byte) (d : Byte) : List Byte :=
  header :: payload ++ [p.checksum.eval (header :: payload) + d]

/-- `ACK` (R70). -/
def ackFrame (p : Params) : List Byte := [p.classAck]

/-- `NACK` (R70). -/
def nackFrame (p : Params) : List Byte := [p.classNack]

/-- `SELECT m` (R70). -/
def selectFrame (p : Params) (m : Byte) : List Byte := cmdFrame p p.classSelect [m] 0#8

/-- `SELECT! m, d` (R70). -/
def badSelectFrame (p : Params) (m d : Byte) : List Byte := cmdFrame p p.classSelect [m] d

/-- `WRITE p0, …` with length code `lc` (R70); well formed when the payload has `1 << lc` bytes. -/
def writeFrame (p : Params) (lc : BitVec 3) (payload : List Byte) : List Byte :=
  cmdFrame p (p.writeHeader lc) payload 0#8

/-- `WRITE! p0, …, d` (R70). -/
def badWriteFrame (p : Params) (lc : BitVec 3) (payload : List Byte) (d : Byte) : List Byte :=
  cmdFrame p (p.writeHeader lc) payload d

/-- One complete item of a stream (R119): a SYS byte, an invalid filler byte, or a CMD frame whose
checksum is moved by `d`. -/
inductive StreamItem where
  | ack
  | nack
  | filler (b : Byte)
  | cmd (header : Byte) (payload : List Byte) (d : Byte)
deriving DecidableEq, Repr

/-- The bytes of an item (R66). -/
def StreamItem.bytes (p : Params) (x : StreamItem) : List Byte :=
  match x with
  | .ack => ackFrame p
  | .nack => nackFrame p
  | .filler b => [b]
  | .cmd h payload d => cmdFrame p h payload d

/-- Filler bytes are invalid headers (R119, R176); a CMD item has a valid CMD header and as many
payload bytes as it announces (R63). -/
def StreamItem.sound (p : Params) (x : StreamItem) : Prop :=
  match x with
  | .ack | .nack => True
  | .filler b => (classify p b).valid = false
  | .cmd h payload _ =>
    payload ≠ [] ∧ (classify p h).payloadLength = some (BitVec.ofNat 6 payload.length) ∧
      payload.length ≤ Config.maxPayload

/-- The outcome a CMD frame ends in, by its header and by how far its checksum is off (R109 to R111). -/
def cmdOutcome (p : Params) (header d : Byte) : ParseOutcome :=
  if d ≠ 0#8 then .receivedCmdInvalidFcs
  else if sanitizedClass header = p.classSelect then .receivedCmdSelect
  else .receivedCmdWrite

/-- The outcome the last byte of an item is reported with (R63, R119). -/
def StreamItem.outcome (p : Params) (x : StreamItem) : ParseOutcome :=
  match x with
  | .ack => .receivedSysAck
  | .nack => .receivedSysNack
  | .filler _ => .receivedInvalidHeader
  | .cmd h _ d => cmdOutcome p h d

end Sys2Proof.Machine
end

