-- ==== Sys2Proof/Safety.lean ====
section
/-! DEFINITION. What the claims call a sound state (10_state.md R25), an input with a meaning (R45), the
validity window (20_memory.md R54) and the host's discipline (70_reset_and_hazards.md R173, R174). -/

namespace Sys2Proof.Machine

/-- INV1 to INV4 of R25, for a state in WFP: `plen` is a payload length, `pend` counts from `plen + 1`
down to 1, `buf[0]` is a valid CMD header of that length, and the frame's bytes so far are written. -/
def State.FrameInv (s : State) : Prop :=
  s.plen.toNat ∈ [1, 2, 4, 8, 16, 32] ∧
  1 ≤ s.pend.toNat ∧ s.pend.toNat ≤ s.plen.toNat + 1 ∧
  (∃ h, s.buf.read 0 = some h ∧
    (sanitizedClass h = s.par.classSelect ∨ sanitizedClass h = s.par.classWrite) ∧
    (classify s.par h).payloadLength = some s.plen) ∧
  ∀ i < s.plen.toNat + 2 - s.pend.toNat, (s.buf.read i).isSome

/-- The invariant of the machine: the parameters meet R6, the buffer is in canonical form, and in WFP
the invariants of R25 hold. INV5: in WFH nothing is required of `plen` and `pend`. -/
def State.Inv (s : State) : Prop :=
  s.par.Distinct ∧ s.buf.wf ∧ (s.st = .wfp → s.FrameInv)

/-- Port values that have a meaning: all but a PLD_RD or PLD_WR of an offset in 33..63 (R45, R180). -/
def legalInput (q : PortIn) : Bool :=
  match presented q with
  | .operation q => q.op = 0b00#2 || q.op = 0b01#2 || offsetLegal q.off
  | .hardReset | .idle => true

/-- The validity window after a step (R54, D13): an UPDATE opens it with a terminal outcome and closes
it with INSUFFICIENT_DATA; RESET and hard reset close it; PLD_RD, PLD_WR and idle steps leave it. The
block keeps no such state: it is a monitor over the ports (notes/assumptions/19.md). -/
def windowAfter (isOpen : Bool) (q : Presented) (o : PortOut) : Bool :=
  match q with
  | .hardReset => false
  | .idle => isOpen
  | .operation q =>
    if q.op = 0b00#2 then o.outcome ≠ ParseOutcome.insufficientData.code
    else if q.op = 0b01#2 then false
    else isOpen

/-- The host's discipline in one step (R173, R174): the payload is read and written inside the validity
window only. -/
def accessAllowed (isOpen : Bool) (q : Presented) : Bool :=
  match q with
  | .hardReset | .idle => true
  | .operation q => q.op = 0b00#2 || q.op = 0b01#2 || (isOpen && offsetLegal q.off)

/-- The payload of `len` bytes as the host's window shows it, offsets 0..len-1 (R126); none where a
byte has never been written. -/
def State.payloadView (s : State) (len : Nat) : List (Option Byte) :=
  (List.range len).map (fun k => s.buf.read (1 + k))

/-- The buffer index an instruction writes, if any (20_memory.md R43): 0 for an UPDATE in WFH, the
write cursor for an UPDATE in WFP, the window's index for a PLD_WR. -/
def bufTarget (i : Instr) (s : State) : Option Nat :=
  match i with
  | .reset | .pldRd _ => none
  | .pldWr off _ => windowIndex off
  | .sysNack | .sysAck | .cmdSelect | .cmdWrite1 | .cmdWrite2 | .cmdWrite4 | .cmdWrite8
  | .cmdWrite16 | .cmdWrite32 | .update _ =>
    match s.st with
    | .wfh => some 0
    | .wfp => writeCursor s.plen s.pend

/-- An instruction leaves the parameters and the host's coming inputs alone (R11, R12). -/
def KeepsHost (s t : State) : Prop := t.par = s.par ∧ t.inputs = s.inputs

/-- Every buffer byte but the one at `i` reads as before. -/
def KeepsBufBut (i : Nat) (s t : State) : Prop := ∀ a, a ≠ i → t.buf.read a = s.buf.read a

/-- What an UPDATE reports: the outcome and the header byte (R31). -/
def Reports (t : State) (o : ParseOutcome) (header : Byte) : Prop :=
  t.out.outcome = o.code ∧ t.out.headerByte = header

/-- The two states differ at most in the counters `plen` and `pend`. -/
def SameButCounters (s t : State) : Prop :=
  t.st = s.st ∧ t.buf = s.buf ∧ t.par = s.par ∧ t.inputs = s.inputs ∧ t.out = s.out ∧
    t.draws = s.draws

/-- `n` steps of the machine (`Host.Core.run`), stopping at the first fault or refusal. -/
def runSteps (n : Nat) (s : State) : Host.Outcome State Fault Refusal := Sys2Proof.core.run n s

/-- The machine gets through `n` steps. -/
def State.runsFor (s : State) (n : Nat) : Prop := ∃ t, runSteps n s = .next t

end Sys2Proof.Machine
end

