-- ==== Sys2Proof/Certificates/Slice0/Obligations.lean ====
section
/-! DEFINITION. The statements about the model, from the numbered rules of spec/. -/

open Sys2Proof Sys2Proof.Machine

/-! ## Encoding -/

/-- Decoding an encoded well-formed instruction gives it back, for every instruction, in either parser
state, for every catalogue that meets R6 (R63, R67, R71). -/
def Obligations.DecodeEncodeRoundTrip : Prop :=
  ∀ (p : Params) (st : ParserState) (i : Instr),
    p.Distinct → WellFormed p st i = true → decode p st (encode p i) = .ok i

/-- Whatever the decoder answers is well formed, and its encoding is the port values it was read from,
the ports the operation does not use apart (R67, R71). -/
def Obligations.DecodedIsWellFormedAndSame : Prop :=
  ∀ (p : Params) (st : ParserState) (q : PortIn) (i : Instr),
    decode p st q = .ok i →
      WellFormed p st i = true ∧
      encode p i = present q.op (if q.op = 0b00#2 ∨ q.op = 0b11#2 then q.din else 0#8)
        (if q.op = 0b10#2 ∨ q.op = 0b11#2 then q.off else 0#6)

/-- The words of spec/opcode_table.json, on the ports they stand on, decode to their rows. A check on
fixed words with the default catalogue (log entry 1: PRESUMED). -/
def Obligations.TableWordsDecodeToTheirRows : Prop :=
  let hdr := fun b => decode Config.defaultParams .wfh (presentUpdate b)
  let op := fun c => decode Config.defaultParams .wfh (present c 0x5A#8 7#6)
  hdr 0b00000010#8 = .ok .sysNack ∧ hdr 0b00000100#8 = .ok .sysAck ∧
  hdr 0b01000011#8 = .ok .cmdSelect ∧ hdr 0b01000100#8 = .ok .cmdWrite1 ∧
  hdr 0b01001100#8 = .ok .cmdWrite2 ∧ hdr 0b01010100#8 = .ok .cmdWrite4 ∧
  hdr 0b01011100#8 = .ok .cmdWrite8 ∧ hdr 0b01100100#8 = .ok .cmdWrite16 ∧
  hdr 0b01101100#8 = .ok .cmdWrite32 ∧
  op 0b00#2 = .ok (.update 0x5A#8) ∧ op 0b01#2 = .ok .reset ∧ op 0b10#2 = .ok (.pldRd 7#6) ∧
  op 0b11#2 = .ok (.pldWr 7#6 0x5A#8)

/-- An input port that an operation does not use has no effect on what is decoded (R67, D22). -/
def Obligations.UnusedPortsHaveNoEffect : Prop :=
  ∀ (p : Params) (st : ParserState) (q : PortIn) (d : Byte) (o : Count),
    (q.op = 0b00#2 → decode p st { q with off := o } = decode p st q) ∧
    (q.op = 0b01#2 → decode p st { q with din := d, off := o } = decode p st q) ∧
    (q.op = 0b10#2 → decode p st { q with din := d } = decode p st q)

/-- A PLD_RD or PLD_WR with an offset in 33..63 is refused: no next state, so nothing is touched (R45). -/
def Obligations.OffsetOutsideWindowRefused : Prop :=
  ∀ (s : State) (off : Count) (v : Byte), 32 < off.toNat →
    exec (.pldRd off) s = .refused (.offsetOutsideWindow off) ∧
    exec (.pldWr off v) s = .refused (.offsetOutsideWindow off) ∧
    ∀ q, s.fetch = .operation q → q.op = 0b10#2 ∨ q.op = 0b11#2 → q.off = off →
      step s = .refused (.offsetOutsideWindow off)

/-! ## The header analyzer -/

/-- The analyzer's record in each of its five cases (R81 to R85) and which bytes of a class are valid,
for every catalogue that meets R6; then the rules' own examples. The examples fix header bytes under the
default catalogue codes, which are the model's choice (log entry 1: PRESUMED). -/
def Obligations.ClassifyByClass : Prop :=
  (∀ (p : Params) (b : Byte), p.Distinct →
    (sanitizedClass b = p.classAck →
      classify p b = ⟨p.classAck, if lengthCode b = 0#3 then some 0#6 else none⟩ ∧
      ((classify p b).valid = true ↔ b = p.classAck)) ∧
    (sanitizedClass b = p.classNack →
      classify p b = ⟨p.classNack, if lengthCode b = 0#3 then some 0#6 else none⟩ ∧
      ((classify p b).valid = true ↔ b = p.classNack)) ∧
    (sanitizedClass b = p.classSelect →
      classify p b = ⟨p.classSelect, if lengthCode b = 0#3 then some 1#6 else none⟩ ∧
      ((classify p b).valid = true ↔ b = p.classSelect)) ∧
    (sanitizedClass b = p.classWrite →
      (classify p b).sanitizedClass = p.classWrite ∧
      ((classify p b).valid = true ↔ (lengthCode b).toNat ≤ 5) ∧
      ∀ l, (classify p b).payloadLength = some l → l.toNat = 2 ^ (lengthCode b).toNat) ∧
    (sanitizedClass b ∉ [p.classAck, p.classNack, p.classSelect, p.classWrite] →
      classify p b = ⟨sanitizedClass b, none⟩)) ∧
  (let c := classify Config.defaultParams
   c 0x04#8 = ⟨0x04#8, some 0#6⟩ ∧ c 0x0C#8 = ⟨0x04#8, none⟩ ∧ c 0x02#8 = ⟨0x02#8, some 0#6⟩ ∧
   c 0x3A#8 = ⟨0x02#8, none⟩ ∧ c 0x43#8 = ⟨0x43#8, some 1#6⟩ ∧ c 0x4B#8 = ⟨0x43#8, none⟩ ∧
   c 0x44#8 = ⟨0x44#8, some 1#6⟩ ∧ c 0x5C#8 = ⟨0x44#8, some 8#6⟩ ∧ c 0x6C#8 = ⟨0x44#8, some 32#6⟩ ∧
   c 0x74#8 = ⟨0x44#8, none⟩ ∧ c 0x00#8 = ⟨0x00#8, none⟩ ∧ c 0x46#8 = ⟨0x46#8, none⟩ ∧
   c 0xC4#8 = ⟨0xC4#8, none⟩)

/-- For every catalogue that meets R6 exactly nine bytes are valid headers, those of R63, with its
payload lengths (R63, R64, R86). -/
def Obligations.CatalogueIsExactlyNineHeaders : Prop :=
  ∀ p : Params, p.Distinct →
    (∀ b, (classify p b).valid = true ↔ b ∈ catalogueBytes p) ∧
    (catalogueBytes p).Nodup ∧ (catalogueBytes p).length = 9 ∧
    (catalogueBytes p).map (fun b => (classify p b).payloadLength) =
      [some 0#6, some 0#6, some 1#6, some 1#6, some 2#6, some 4#6, some 8#6, some 16#6, some 32#6]

/-- The decoder has a row for a byte exactly when the analyzer calls it valid (R63, R71, R86). -/
def Obligations.DecoderAgreesWithAnalyzer : Prop :=
  ∀ (p : Params) (b : Byte), (headerRow p b).isSome = (classify p b).valid

/-- The third arm of the SYS dispatch is reached in no state at all (R88, R117). -/
def Obligations.SysDispatchArmUnreachable : Prop :=
  ∀ (i : Instr) (s : State), exec i s ≠ .fault .unrecognizedSysSubtype

/-! ## UPDATE in WAITING_FOR_HEADER -/

/-- UPDATE of an invalid header in WFH (R102). That `header_byte` of this outcome is the offending byte
is the model's choice among two readings (log entry 10: DEDUCED from R113 with decision D7). -/
def Obligations.InvalidHeaderReported : Prop :=
  ∀ (s : State) (b : Byte), s.st = .wfh → (classify s.par b).valid = false →
    ∃ t, exec (.update b) s = .next t ∧ Reports t .receivedInvalidHeader b ∧ t.st = .wfh ∧
      t.buf.read 0 = some b ∧ KeepsBufBut 0 s t ∧ KeepsHost s t

/-- SYS ACK in WFH, as the row and as the UPDATE of its byte (R103). The frame is that one byte (R63),
so both readings of the row in log entry 14 are the same step here. -/
def Obligations.SysAckReported : Prop :=
  ∀ s : State, s.par.Distinct → s.st = .wfh →
    ∃ t, exec .sysAck s = .next t ∧ exec (.update s.par.classAck) s = .next t ∧
      Reports t .receivedSysAck s.par.classAck ∧ t.st = .wfh ∧
      t.buf.read 0 = some s.par.classAck ∧ KeepsBufBut 0 s t ∧ KeepsHost s t

/-- SYS NACK in WFH, as the row and as the UPDATE of its byte (R104). The frame is that one byte (R63),
so both readings of the row in log entry 14 are the same step here. -/
def Obligations.SysNackReported : Prop :=
  ∀ s : State, s.par.Distinct → s.st = .wfh →
    ∃ t, exec .sysNack s = .next t ∧ exec (.update s.par.classNack) s = .next t ∧
      Reports t .receivedSysNack s.par.classNack ∧ t.st = .wfh ∧
      t.buf.read 0 = some s.par.classNack ∧ KeepsBufBut 0 s t ∧ KeepsHost s t

/-- UPDATE of a valid CMD header in WFH (R105). -/
def Obligations.CmdHeaderOpensFrame : Prop :=
  ∀ (s : State) (b : Byte) (len : Count), s.st = .wfh →
    (classify s.par b).payloadLength = some len → 0 < len.toNat →
    ∃ t, exec (.update b) s = .next t ∧ Reports t .insufficientData b ∧ t.st = .wfp ∧
      t.plen = len ∧ t.pend.toNat = len.toNat + 1 ∧ t.buf.read 0 = some b ∧ KeepsBufBut 0 s t ∧
      KeepsHost s t

/-- The seven CMD rows of the catalogue in WFH: each opens a frame of its own payload length (R63, R84,
R105). That such a row is the single UPDATE of its header byte, and not the whole frame, is the model's
choice (log entry 14: DEDUCED). -/
def Obligations.CmdRowsOpenTheirFrames : Prop :=
  ∀ (s : State) (i : Instr) (b : Byte) (len : Count), s.par.Distinct → s.st = .wfh →
    (i, b, len) ∈
      [(Instr.cmdSelect, s.par.classSelect, 1#6), (.cmdWrite1, s.par.writeHeader 0#3, 1#6),
       (.cmdWrite2, s.par.writeHeader 1#3, 2#6), (.cmdWrite4, s.par.writeHeader 2#3, 4#6),
       (.cmdWrite8, s.par.writeHeader 3#3, 8#6), (.cmdWrite16, s.par.writeHeader 4#3, 16#6),
       (.cmdWrite32, s.par.writeHeader 5#3, 32#6)] →
    ∃ t, exec i s = .next t ∧ Reports t .insufficientData b ∧ t.st = .wfp ∧ t.plen = len ∧
      t.pend = len + 1#6 ∧ t.buf.read 0 = some b ∧ KeepsBufBut 0 s t ∧ KeepsHost s t

/-- A row of the catalogue is the UPDATE of its header byte, in every state. The model's choice (log
entry 14): the spec gives the rows as headers that UPDATE receives (R63, R100). -/
def Obligations.HeaderRowsAreUpdates : Prop :=
  ∀ s : State,
    exec .sysNack s = exec (.update s.par.classNack) s ∧
    exec .sysAck s = exec (.update s.par.classAck) s ∧
    exec .cmdSelect s = exec (.update s.par.classSelect) s ∧
    exec .cmdWrite1 s = exec (.update (s.par.writeHeader 0#3)) s ∧
    exec .cmdWrite2 s = exec (.update (s.par.writeHeader 1#3)) s ∧
    exec .cmdWrite4 s = exec (.update (s.par.writeHeader 2#3)) s ∧
    exec .cmdWrite8 s = exec (.update (s.par.writeHeader 3#3)) s ∧
    exec .cmdWrite16 s = exec (.update (s.par.writeHeader 4#3)) s ∧
    exec .cmdWrite32 s = exec (.update (s.par.writeHeader 5#3)) s

/-! ## UPDATE in WAITING_FOR_PAYLOAD_AND_CHECKSUM -/

/-- UPDATE in WFP, not the last byte: stored at the write cursor, unexamined (R106, R107, R28). -/
def Obligations.PayloadByteStored : Prop :=
  ∀ (s : State) (b : Byte), s.st = .wfp → 1 < s.pend.toNat → s.pend.toNat ≤ s.plen.toNat + 1 →
    s.plen.toNat ≤ 32 →
    ∃ t i, exec (.update b) s = .next t ∧ Reports t .insufficientData (s.readBuf 0) ∧
      t.st = .wfp ∧ t.plen = s.plen ∧ t.pend.toNat = s.pend.toNat - 1 ∧
      writeCursor s.plen s.pend = some i ∧ i = s.plen.toNat + 2 - s.pend.toNat ∧ 1 ≤ i ∧
      i ≤ s.plen.toNat ∧ t.buf.read i = some b ∧ KeepsBufBut i s t ∧ KeepsHost s t

/-- UPDATE in WFP, last byte, the checksum over header and payload does not match (R108, R109, R112). -/
def Obligations.ChecksumMismatchReported : Prop :=
  ∀ (s : State) (b : Byte), s.st = .wfp → s.pend = 1#6 → s.plen.toNat ≤ 32 →
    s.par.checksum.eval (s.bufUpTo s.plen.toNat) ≠ b →
    ∃ t i, exec (.update b) s = .next t ∧ Reports t .receivedCmdInvalidFcs (s.readBuf 0) ∧
      t.out.payloadLength = s.plen ∧ t.st = .wfh ∧ writeCursor s.plen s.pend = some i ∧
      i = s.plen.toNat + 1 ∧ t.buf.read i = some b ∧ KeepsBufBut i s t ∧ KeepsHost s t

/-- UPDATE in WFP, last byte, match, stored header SELECT (R108, R110, R112); in a state with the
invariants of R25 its payload length is 1. -/
def Obligations.SelectReported : Prop :=
  ∀ (s : State) (b : Byte), s.st = .wfp → s.pend = 1#6 → s.plen.toNat ≤ 32 → s.par.Distinct →
    s.par.checksum.eval (s.bufUpTo s.plen.toNat) = b →
    sanitizedClass (s.readBuf 0) = s.par.classSelect →
    (s.FrameInv → s.plen = 1#6) ∧
    ∃ t i, exec (.update b) s = .next t ∧ Reports t .receivedCmdSelect (s.readBuf 0) ∧
      t.out.payloadLength = s.plen ∧ t.st = .wfh ∧ writeCursor s.plen s.pend = some i ∧
      i = s.plen.toNat + 1 ∧ t.buf.read i = some b ∧ KeepsBufBut i s t ∧ KeepsHost s t

/-- UPDATE in WFP, last byte, match, stored header WRITE (R108, R111, R112). -/
def Obligations.WriteReported : Prop :=
  ∀ (s : State) (b : Byte), s.st = .wfp → s.pend = 1#6 → s.plen.toNat ≤ 32 → s.par.Distinct →
    s.par.checksum.eval (s.bufUpTo s.plen.toNat) = b →
    sanitizedClass (s.readBuf 0) = s.par.classWrite →
    ∃ t i, exec (.update b) s = .next t ∧ Reports t .receivedCmdWrite (s.readBuf 0) ∧
      t.out.payloadLength = s.plen ∧ t.st = .wfh ∧ writeCursor s.plen s.pend = some i ∧
      i = s.plen.toNat + 1 ∧ t.buf.read i = some b ∧ KeepsBufBut i s t ∧ KeepsHost s t

/-- At the last byte of a frame the checksum input is the `plen + 1` bytes from index 0, 2 to 33 of
them, and every one has been written (R51, R136). -/
def Obligations.ChecksumInputIsWholeAndWritten : Prop :=
  ∀ s : State, s.FrameInv → s.pend = 1#6 →
    (s.bufUpTo s.plen.toNat).length = s.plen.toNat + 1 ∧
    2 ≤ s.plen.toNat + 1 ∧ s.plen.toNat + 1 ≤ Config.maxCksInput ∧
    ∀ k, k < s.plen.toNat + 1 → (s.bufUpTo s.plen.toNat)[k]? = s.buf.read k ∧
      (s.buf.read k).isSome = true

/-- After an UPDATE the block is in WFP exactly when the outcome is INSUFFICIENT_DATA; the code 7 is
never produced (R32, R102 to R112). -/
def Obligations.InsufficientDataMeansWfp : Prop :=
  ∀ (s t : State) (b : Byte), exec (.update b) s = .next t →
    (t.out.outcome = ParseOutcome.insufficientData.code ↔ t.st = .wfp) ∧ t.out.outcome ≠ 7#3

/-- After any terminal outcome an invalid header byte is reported at once (R112, R118; T5 of
95_test_vectors.md). That the report's `header_byte` is that byte is the model's choice among two
readings (log entry 10: DEDUCED from R113 with decision D7). -/
def Obligations.ReadyAfterTerminalOutcome : Prop :=
  ∀ (s t : State) (b x : Byte), exec (.update b) s = .next t →
    t.out.outcome ≠ ParseOutcome.insufficientData.code → (classify s.par x).valid = false →
    ∃ u, exec (.update x) t = .next u ∧ Reports u .receivedInvalidHeader x ∧ u.st = .wfh

/-! ## RESET and the payload window -/

/-- RESET, in every state: WFH, the buffer as it was (R121). -/
def Obligations.ResetReturnsToHeader : Prop :=
  ∀ s : State, ∃ t, exec .reset s = .next t ∧ t.st = .wfh ∧ (∀ a, t.buf.read a = s.buf.read a) ∧
    KeepsHost s t

/-- PLD_RD of a legal offset, in every state: the byte at index `1 + off`; nothing changes (R123, R44,
R52). Where nothing has written the byte, `dout` is a free value and nothing is said. -/
def Obligations.PayloadReadShowsBuffer : Prop :=
  ∀ (s : State) (off : Count), off.toNat ≤ 32 →
    ∃ t, exec (.pldRd off) s = .next t ∧
      (∀ v, s.buf.read (1 + off.toNat) = some v → t.out.dout = v) ∧
      t.st = s.st ∧ t.plen = s.plen ∧ t.pend = s.pend ∧ (∀ a, t.buf.read a = s.buf.read a) ∧
      KeepsHost s t

/-- PLD_WR of a legal offset, in every state: the byte at index `1 + off` alone (R124, R44, R52). -/
def Obligations.PayloadWriteStoresByte : Prop :=
  ∀ (s : State) (off : Count) (v : Byte), off.toNat ≤ 32 →
    ∃ t i, exec (.pldWr off v) s = .next t ∧ windowIndex off = some i ∧ i = 1 + off.toNat ∧
      t.buf.read i = some v ∧ KeepsBufBut i s t ∧ t.st = s.st ∧ t.plen = s.plen ∧
      t.pend = s.pend ∧ KeepsHost s t

/-- A PLD_RD after a PLD_WR shows the byte written at that offset and the old byte at any other; a
second equal PLD_WR changes no byte (R46, R47). -/
def Obligations.WindowReadAfterWrite : Prop :=
  ∀ (s : State) (off off' : Count) (v : Byte), off.toNat ≤ 32 → off'.toNat ≤ 32 →
    ∃ t u w, exec (.pldWr off v) s = .next t ∧ exec (.pldRd off') t = .next u ∧
      exec (.pldWr off v) t = .next w ∧ w.buf = t.buf ∧
      (off' = off → u.out.dout = v) ∧
      (off' ≠ off → ∀ x, s.buf.read (1 + off'.toNat) = some x → u.out.dout = x)

/-! ## The step -/

/-- A step whose port values decode to `i` runs `i`, once the port values are taken; nothing else is
added around it (R10, R71). -/
def Obligations.StepRunsDecodedInstruction : Prop :=
  ∀ (s : State) (q : PortIn) (rest : List PortIn) (i : Instr),
    s.inputs = q :: rest → q.rst = false → q.opValid = true → decode s.par s.st q = .ok i →
    step s = exec i { s with inputs := rest }

/-- Hard reset overrides any operation: WFH, no buffer byte holds a value, and the machine right after
reset is such a state (R170, R33). -/
def Obligations.HardResetOverridesOperation : Prop :=
  (∀ (s : State) (q : PortIn) (rest : List PortIn), s.inputs = q :: rest → q.rst = true →
    ∃ t, step s = .next t ∧ t.st = .wfh ∧ (∀ a, t.buf.read a = none) ∧ t.par = s.par ∧
      t.inputs = rest) ∧
  State.reset.st = .wfh ∧ ∀ a, State.reset.buf.read a = none

/-- With no operation presented the block's state does not change (R30). -/
def Obligations.IdleStepKeepsBlock : Prop :=
  ∀ s : State, s.fetch = .idle →
    ∃ t, step s = .next t ∧ t.st = s.st ∧ t.plen = s.plen ∧ t.pend = s.pend ∧
      (∀ a, t.buf.read a = s.buf.read a) ∧ t.par = s.par ∧ t.inputs = s.inputs.tail

/-! ## Invariants and rules of the whole machine -/

/-- The machine right after reset meets the invariant (R25, R33). The parameters and registers it holds
are the model's choices where the spec gives none (log entries 1, 2, 7). -/
def Obligations.ResetStateMeetsInvariant : Prop := State.reset.Inv

/-- Every step keeps the invariants INV1 to INV5 of R25, the canonical form of the buffer and R6. -/
def Obligations.StepKeepsInvariant : Prop :=
  ∀ s t : State, s.Inv → step s = .next t → t.Inv

/-- Every step keeps the canonical form of the buffer, from any state. -/
def Obligations.StepKeepsCanonicalBuffer : Prop :=
  ∀ s t : State, s.buf.wf → step s = .next t → t.buf.wf

/-- In a state with the invariant no step faults: the arms of R117 are not reached, the write cursor
stays in the buffer (R28, R117, R150). -/
def Obligations.SoundStateNeverFaults : Prop :=
  ∀ (s : State) (f : Fault), s.Inv → step s ≠ .fault f

/-- From every state with the invariant the machine runs on for as long as the host presents port
values that have a meaning; there is no stuck and no final state (R180). -/
def Obligations.LegalInputsNeverStop : Prop :=
  ∀ (n : Nat) (s : State), s.Inv → (∀ q ∈ s.inputs, legalInput q = true) → s.runsFor n

/-- No step changes the parameters; every step takes exactly one input (R10, R12). -/
def Obligations.ParametersNeverChange : Prop :=
  ∀ s t : State, step s = .next t → t.par = s.par ∧ t.inputs = s.inputs.tail

/-- The access matrix: an instruction that gives a next state leaves every byte alone but the one it
writes (R43). -/
def Obligations.AccessMatrixHolds : Prop :=
  ∀ (i : Instr) (s t : State), exec i s = .next t →
    ∀ a, bufTarget i s ≠ some a → t.buf.read a = s.buf.read a

/-- The header of a frame in progress cannot be altered: while the block stays in WFP, `buf[0]` and
`plen` keep their values (R50, R22). -/
def Obligations.HeaderFixedWhileAccumulating : Prop :=
  ∀ s t : State, s.st = .wfp → step s = .next t → t.st = .wfp →
    t.buf.read 0 = s.buf.read 0 ∧ t.plen = s.plen

/-- Only an UPDATE of a valid CMD header leaves WFH (R21, R115). -/
def Obligations.OnlyCmdHeaderLeavesWfh : Prop :=
  ∀ s t : State, s.st = .wfh → step s = .next t → t.st = .wfp →
    ∃ q len, s.fetch = .operation q ∧ q.op = 0b00#2 ∧
      (classify s.par q.din).payloadLength = some len ∧ 0 < len.toNat ∧ t.plen = len ∧
      t.pend.toNat = len.toNat + 1

/-- Only a hard reset, a RESET or the last byte of the frame leaves WFP (R21, R115). -/
def Obligations.WaysOutOfWfp : Prop :=
  ∀ s t : State, s.st = .wfp → step s = .next t → t.st = .wfh →
    s.fetch = .hardReset ∨
    ∃ q, s.fetch = .operation q ∧ (q.op = 0b01#2 ∨ q.op = 0b00#2 ∧ s.pend = 1#6)

/-- In WFH the counters are irrelevant: whatever they hold, a step does the same but for what it leaves
in the counters, and once it opens a frame the states are equal (R22, R23). That the two runs also show
equal values on the output ports that the spec leaves undefined is the model's choice and no rule of the
spec: a free value depends on the counter `draws` alone (log entry 21: DESIGN CHOICE, unsafe for that
comparison). -/
def Obligations.CountersIrrelevantInWfh : Prop :=
  ∀ (s t : State) (c d : Count), s.st = .wfh → step s = .next t →
    ∃ u, step { s with plen := c, pend := d } = .next u ∧ SameButCounters t u ∧
      (t.st = .wfp → u = t)

/-- While the validity window is open the block is in WFH, so a payload access of a host that keeps to
the window never meets a frame in progress (R54, R173, R174; the monitor is log entry 19). -/
def Obligations.OpenWindowMeansWfh : Prop :=
  ∀ (s t : State) (isOpen : Bool), (isOpen = true → s.st = .wfh) → step s = .next t →
    (windowAfter isOpen s.fetch t.out = true → t.st = .wfh) ∧
    ∀ q, accessAllowed isOpen s.fetch = true → s.fetch = .operation q →
      q.op = 0b10#2 ∨ q.op = 0b11#2 → s.st = .wfh

/-- With such a host a step inside a frame changes no byte but the one at the write cursor: the bytes
the completion checksum will read are the received ones (R50, R174). -/
def Obligations.DisciplinedHostKeepsReceivedBytes : Prop :=
  ∀ (s t : State) (isOpen : Bool), (isOpen = true → s.st = .wfh) →
    accessAllowed isOpen s.fetch = true → s.st = .wfp → step s = .next t → t.st = .wfp →
    ∀ a, t.buf.read a ≠ s.buf.read a → writeCursor s.plen s.pend = some a

/-! ## Frames -/

/-- Inside a CMD frame every byte but the last is reported INSUFFICIENT_DATA with the frame's header
(R118). -/
def Obligations.FrameInProgressReported : Prop :=
  ∀ (s : State) (h d : Byte) (payload : List Byte) (rest : List PortIn) (k : Nat),
    s.st = .wfh → (StreamItem.cmd h payload d).sound s.par →
    s.inputs = feed (cmdFrame s.par h payload d) ++ rest → k ≤ payload.length →
    ∃ t, runSteps (k + 1) s = .next t ∧ Reports t .insufficientData h ∧ t.st = .wfp

/-- A CMD frame fed from WFH is reported by its last byte: SELECT or WRITE where the checksum is right,
RECEIVED_CMD_INVALID_FCS where it is off by any `d`, with the same header, the same payload length and
the same payload bytes in the window (R118, R140; T2 to T4 of 95_test_vectors.md). -/
def Obligations.CmdFrameReported : Prop :=
  ∀ (s : State) (h d : Byte) (payload : List Byte) (rest : List PortIn),
    s.st = .wfh → s.par.Distinct → (StreamItem.cmd h payload d).sound s.par →
    s.inputs = feed (cmdFrame s.par h payload d) ++ rest →
    ∃ t, runSteps (payload.length + 2) s = .next t ∧
      Reports t (cmdOutcome s.par h d) h ∧ t.out.payloadLength.toNat = payload.length ∧
      t.st = .wfh ∧ t.inputs = rest ∧ t.par = s.par ∧
      t.payloadView payload.length = payload.map some ∧
      t.buf.read (payload.length + 1) = some (s.par.checksum.eval (h :: payload) + d)

/-- A RESET at any moment, then a CMD frame: the frame is reported as from a fresh start (R121; T7 of
95_test_vectors.md). -/
def Obligations.FrameAfterResetReported : Prop :=
  ∀ (s : State) (h d : Byte) (payload : List Byte) (rest : List PortIn),
    s.par.Distinct → (StreamItem.cmd h payload d).sound s.par →
    s.inputs = presentReset :: feed (cmdFrame s.par h payload d) ++ rest →
    ∃ t, runSteps (payload.length + 3) s = .next t ∧
      Reports t (cmdOutcome s.par h d) h ∧ t.out.payloadLength.toNat = payload.length ∧
      t.st = .wfh ∧ t.payloadView payload.length = payload.map some

/-- A stream of SYS bytes, invalid filler bytes and CMD frames reports every item at its last byte, in
order (R119; T6 of 95_test_vectors.md). -/
def Obligations.StreamReportsItsItems : Prop :=
  ∀ (s : State) (before : List StreamItem) (x : StreamItem) (rest : List PortIn),
    s.st = .wfh → s.par.Distinct → (∀ y ∈ before, y.sound s.par) → x.sound s.par →
    s.inputs = feed ((before ++ [x]).flatMap (StreamItem.bytes s.par)) ++ rest →
    ∃ t, runSteps ((before ++ [x]).flatMap (StreamItem.bytes s.par)).length s = .next t ∧
      t.out.outcome = (x.outcome s.par).code ∧ t.st = .wfh ∧ t.inputs = rest
end

