-- ==== Sys2Proof/Laws/Header.lean ====
section
/-! SUPPORT. The fields of a header byte, and what the analyzer and the decoder of headers can answer. -/

namespace Sys2Proof

/-- A byte is its class and its length code (R61). -/
theorem header_split (b : Byte) :
    sanitizedClass b ||| ((lengthCode b).setWidth 8 <<< Config.lcLsb) = b := by
  revert b; decide

/-- `sanitized_class == (type << 6) | subtype` (R61). -/
theorem sanitizedClass_eq_classOf (b : Byte) :
    sanitizedClass b = classOf (headerType b) (headerSubtype b) := by
  revert b; decide

@[simp] theorem sanitizedClass_classOf (t : BitVec 2) (u : BitVec 3) :
    sanitizedClass (classOf t u) = classOf t u := by
  revert t u; decide

@[simp] theorem lengthCode_classOf (t : BitVec 2) (u : BitVec 3) :
    lengthCode (classOf t u) = 0#3 := by
  revert t u; decide

@[simp] theorem sanitizedClass_writeHeader (p : Params) (lc : BitVec 3) :
    sanitizedClass (p.writeHeader lc) = p.classWrite := by
  unfold Params.writeHeader Params.classWrite
  generalize p.typeCmd = t, p.subWrite = u
  revert t u lc; decide

@[simp] theorem lengthCode_writeHeader (p : Params) (lc : BitVec 3) :
    lengthCode (p.writeHeader lc) = lc := by
  unfold Params.writeHeader Params.classWrite
  generalize p.typeCmd = t, p.subWrite = u
  revert t u lc; decide

@[simp] theorem sanitizedClass_classAck (p : Params) : sanitizedClass p.classAck = p.classAck :=
  sanitizedClass_classOf _ _
@[simp] theorem sanitizedClass_classNack (p : Params) : sanitizedClass p.classNack = p.classNack :=
  sanitizedClass_classOf _ _
@[simp] theorem sanitizedClass_classSelect (p : Params) :
    sanitizedClass p.classSelect = p.classSelect := sanitizedClass_classOf _ _
@[simp] theorem lengthCode_classAck (p : Params) : lengthCode p.classAck = 0#3 :=
  lengthCode_classOf _ _
@[simp] theorem lengthCode_classNack (p : Params) : lengthCode p.classNack = 0#3 :=
  lengthCode_classOf _ _
@[simp] theorem lengthCode_classSelect (p : Params) : lengthCode p.classSelect = 0#3 :=
  lengthCode_classOf _ _

/-- Two bytes of one class and one length code are equal. -/
theorem header_ext {b c : Byte} (h1 : sanitizedClass b = sanitizedClass c)
    (h2 : lengthCode b = lengthCode c) : b = c := by
  rw [← header_split b, ← header_split c, h1, h2]

/-- The record's class is always `b & 0xC7` (R80). -/
@[simp] theorem classify_class (p : Params) (b : Byte) :
    (classify p b).sanitizedClass = sanitizedClass b := by
  simp only [classify]; split_ifs <;> rfl

/-- R6, spelled out. -/
theorem Params.Distinct.ne {p : Params} (h : p.Distinct) :
    p.classAck ≠ p.classNack ∧ p.classAck ≠ p.classSelect ∧ p.classAck ≠ p.classWrite ∧
    p.classNack ≠ p.classSelect ∧ p.classNack ≠ p.classWrite ∧ p.classSelect ≠ p.classWrite := by
  simp only [Params.Distinct, List.nodup_cons, List.mem_cons, List.not_mem_nil, or_false,
    not_or] at h
  tauto

/-- Every case in which the analyzer produces a payload length (R81 to R85). -/
theorem classify_some {p : Params} {b : Byte} {l : Count}
    (h : (classify p b).payloadLength = some l) :
    ((sanitizedClass b = p.classAck ∨ sanitizedClass b = p.classNack) ∧ lengthCode b = 0#3 ∧
      l = 0#6) ∨
    (sanitizedClass b = p.classSelect ∧ lengthCode b = 0#3 ∧ l = 1#6) ∨
    (sanitizedClass b = p.classWrite ∧ (lengthCode b).toNat ≤ 5 ∧ l = lengthOfCode (lengthCode b)) := by
  simp only [classify] at h
  split_ifs at h <;> simp_all [Config.lcMaxWrite]

/-- The lengths that the codes 0 to 5 give (R62, R87). -/
theorem lengthOfCode_toNat {lc : BitVec 3} (h : lc.toNat ≤ 5) :
    (lengthOfCode lc).toNat = 2 ^ lc.toNat := by
  revert lc; decide

/-- A payload length is 0 or one of the six of R63. -/
theorem classify_length {p : Params} {b : Byte} {l : Count}
    (h : (classify p b).payloadLength = some l) : l = 0#6 ∨ l.toNat ∈ [1, 2, 4, 8, 16, 32] := by
  rcases classify_some h with ⟨-, -, rfl⟩ | ⟨-, -, rfl⟩ | ⟨-, hc, rfl⟩
  · exact .inl rfl
  · exact .inr (by decide)
  · refine .inr ?_
    clear h
    generalize lengthCode b = lc at hc
    revert lc; decide

/-- The legal offsets are 0..32 (R44). -/
theorem offsetLegal_eq_true {off : Count} : offsetLegal off = true ↔ off.toNat ≤ 32 := by
  unfold offsetLegal Config.maxOffset; exact decide_eq_true_iff

theorem offsetLegal_eq_false {off : Count} : offsetLegal off = false ↔ 32 < off.toNat := by
  rw [← Bool.not_eq_true, offsetLegal_eq_true, not_le]

/-- Which rows there are by length code. -/
theorem writeRow_cases {lc : BitVec 3} {i : Instr} (h : writeRow lc = some i) :
    (lc = 0#3 ∧ i = .cmdWrite1) ∨ (lc = 1#3 ∧ i = .cmdWrite2) ∨ (lc = 2#3 ∧ i = .cmdWrite4) ∨
    (lc = 3#3 ∧ i = .cmdWrite8) ∨ (lc = 4#3 ∧ i = .cmdWrite16) ∨ (lc = 5#3 ∧ i = .cmdWrite32) := by
  unfold writeRow at h
  split_ifs at h <;> simp_all

end Sys2Proof
end

