-- ==== Sys2Proof/Laws/Memory.lean ====
section
/-! SUPPORT. The laws of the frame buffer: a read after a write, and the canonical form. -/

namespace Sys2Proof.Machine

@[simp] theorem Memory.read_nil (a : Nat) : Memory.read [] a = none := rfl

@[simp] theorem Memory.wf_nil : Memory.wf [] := by simp [Memory.wf]

/-- A read after a write to the same index gives the byte written (R47). -/
@[simp] theorem Memory.read_write_same (m : Memory) (a : Nat) (v : Byte) :
    (m.write a v).read a = some v := by
  induction m with
  | nil => simp [Memory.write, Memory.read]
  | cons c m ih =>
    obtain ⟨k, w⟩ := c
    unfold Memory.write
    split_ifs with h1 h2
    · simp [Memory.read]
    · simp [Memory.read]
    · simp [Memory.read, h2, ih]

/-- A write leaves every other index alone (R46). -/
theorem Memory.read_write_other (m : Memory) {a b : Nat} (v : Byte) (h : b ≠ a) :
    (m.write a v).read b = m.read b := by
  induction m with
  | nil => simp [Memory.write, Memory.read, h]
  | cons c m ih =>
    obtain ⟨k, w⟩ := c
    unfold Memory.write
    split_ifs with h1 h2
    · simp [Memory.read, h]
    · subst h2; simp [Memory.read, h]
    · simp [Memory.read, ih]

theorem Memory.read_write (m : Memory) (a b : Nat) (v : Byte) :
    (m.write a v).read b = if b = a then some v else m.read b := by
  split_ifs with h
  · subst h; simp
  · exact m.read_write_other v h

/-- Where a write can leave an entry. -/
theorem Memory.mem_write {m : Memory} {a : Nat} {v : Byte} {c : Host.Cell}
    (h : c ∈ m.write a v) : c = (a, v) ∨ c ∈ m := by
  induction m with
  | nil => simpa [Memory.write] using h
  | cons d m ih =>
    obtain ⟨k, w⟩ := d
    unfold Memory.write at h
    split_ifs at h with h1 h2
    · simpa using h
    · rcases List.mem_cons.mp h with h | h
      · exact .inl h
      · exact .inr (List.mem_cons_of_mem _ h)
    · rcases List.mem_cons.mp h with h | h
      · exact .inr (h ▸ List.mem_cons_self)
      · exact (ih h).imp id (List.mem_cons_of_mem _)

/-- A write inside the buffer keeps the canonical form. -/
theorem Memory.wf_write {m : Memory} {a : Nat} (v : Byte) (hm : m.wf) (ha : a < Config.bufCap) :
    (m.write a v).wf := by
  refine ⟨?_, fun x hx => (Memory.mem_write hx).elim (fun e => e ▸ ha) (hm.2 x)⟩
  replace hm := hm.1
  induction m with
  | nil => simp [Memory.write]
  | cons c m ih =>
    obtain ⟨k, w⟩ := c
    obtain ⟨hk, ht⟩ := List.pairwise_cons.mp hm
    unfold Memory.write
    split_ifs with h1 h2
    · refine List.pairwise_cons.mpr ⟨?_, hm⟩
      intro x hx
      rcases List.mem_cons.mp hx with rfl | hx
      · exact h1
      · exact lt_trans h1 (hk x hx)
    · subst h2
      exact List.pairwise_cons.mpr ⟨hk, ht⟩
    · refine List.pairwise_cons.mpr ⟨?_, ih ht⟩
      intro x hx
      rcases Memory.mem_write hx with rfl | hx
      · exact lt_of_le_of_ne (not_lt.mp h1) (Ne.symm h2)
      · exact hk x hx

/-- Two writes of one byte to one index equal one (R46). -/
theorem Memory.write_write (m : Memory) (a : Nat) (v w : Byte) :
    (m.write a w).write a v = m.write a v := by
  induction m with
  | nil => simp [Memory.write]
  | cons c m ih =>
    obtain ⟨k, x⟩ := c
    by_cases h1 : a < k
    · simp [Memory.write, h1]
    · by_cases h2 : a = k
      · subst h2; simp [Memory.write]
      · simp [Memory.write, h1, h2, ih]

end Sys2Proof.Machine
end

