-- ==== Sys2Proof/Laws/State.lean ====
section
/-! SUPPORT. One lemma per field per update of the state, each true by rfl, and the ports of the results. -/

namespace Sys2Proof.Machine

@[simp] theorem State.writeBuf_st (s : State) (i : Nat) (v : Byte) :
    (s.writeBuf i v).st = s.st := rfl
@[simp] theorem State.writeBuf_plen (s : State) (i : Nat) (v : Byte) :
    (s.writeBuf i v).plen = s.plen := rfl
@[simp] theorem State.writeBuf_pend (s : State) (i : Nat) (v : Byte) :
    (s.writeBuf i v).pend = s.pend := rfl
@[simp] theorem State.writeBuf_buf (s : State) (i : Nat) (v : Byte) :
    (s.writeBuf i v).buf = s.buf.write i v := rfl
@[simp] theorem State.writeBuf_par (s : State) (i : Nat) (v : Byte) :
    (s.writeBuf i v).par = s.par := rfl
@[simp] theorem State.writeBuf_inputs (s : State) (i : Nat) (v : Byte) :
    (s.writeBuf i v).inputs = s.inputs := rfl
@[simp] theorem State.writeBuf_out (s : State) (i : Nat) (v : Byte) :
    (s.writeBuf i v).out = s.out := rfl
@[simp] theorem State.writeBuf_draws (s : State) (i : Nat) (v : Byte) :
    (s.writeBuf i v).draws = s.draws := rfl

@[simp] theorem State.conclude_st (s : State) (o : ParseOutcome) : (s.conclude o).st = s.st := rfl
@[simp] theorem State.conclude_plen (s : State) (o : ParseOutcome) :
    (s.conclude o).plen = s.plen := rfl
@[simp] theorem State.conclude_pend (s : State) (o : ParseOutcome) :
    (s.conclude o).pend = s.pend := rfl
@[simp] theorem State.conclude_buf (s : State) (o : ParseOutcome) :
    (s.conclude o).buf = s.buf := rfl
@[simp] theorem State.conclude_par (s : State) (o : ParseOutcome) :
    (s.conclude o).par = s.par := rfl
@[simp] theorem State.conclude_inputs (s : State) (o : ParseOutcome) :
    (s.conclude o).inputs = s.inputs := rfl
@[simp] theorem State.conclude_out (s : State) (o : ParseOutcome) :
    (s.conclude o).out = updateOut o (s.readBuf 0) s.plen s.draws := rfl
@[simp] theorem State.conclude_draws (s : State) (o : ParseOutcome) :
    (s.conclude o).draws = s.draws + 1 := rfl

@[simp] theorem State.concludeWfh_st (s : State) (o : ParseOutcome) :
    (s.concludeWfh o).st = .wfh := rfl
@[simp] theorem State.concludeWfh_plen (s : State) (o : ParseOutcome) :
    (s.concludeWfh o).plen = Config.freePlen s.draws := rfl
@[simp] theorem State.concludeWfh_pend (s : State) (o : ParseOutcome) :
    (s.concludeWfh o).pend = Config.freePend s.draws := rfl
@[simp] theorem State.concludeWfh_buf (s : State) (o : ParseOutcome) :
    (s.concludeWfh o).buf = s.buf := rfl
@[simp] theorem State.concludeWfh_par (s : State) (o : ParseOutcome) :
    (s.concludeWfh o).par = s.par := rfl
@[simp] theorem State.concludeWfh_inputs (s : State) (o : ParseOutcome) :
    (s.concludeWfh o).inputs = s.inputs := rfl
@[simp] theorem State.concludeWfh_out (s : State) (o : ParseOutcome) :
    (s.concludeWfh o).out = updateOut o (s.readBuf 0) s.plen s.draws := rfl
@[simp] theorem State.concludeWfh_draws (s : State) (o : ParseOutcome) :
    (s.concludeWfh o).draws = s.draws + 1 := rfl

@[simp] theorem State.openFrame_st (s : State) (len : Count) : (s.openFrame len).st = .wfp := rfl
@[simp] theorem State.openFrame_plen (s : State) (len : Count) :
    (s.openFrame len).plen = len := rfl
@[simp] theorem State.openFrame_pend (s : State) (len : Count) :
    (s.openFrame len).pend = len + 1#6 := rfl
@[simp] theorem State.openFrame_buf (s : State) (len : Count) :
    (s.openFrame len).buf = s.buf := rfl
@[simp] theorem State.openFrame_par (s : State) (len : Count) :
    (s.openFrame len).par = s.par := rfl
@[simp] theorem State.openFrame_inputs (s : State) (len : Count) :
    (s.openFrame len).inputs = s.inputs := rfl
@[simp] theorem State.openFrame_out (s : State) (len : Count) :
    (s.openFrame len).out = s.out := rfl
@[simp] theorem State.openFrame_draws (s : State) (len : Count) :
    (s.openFrame len).draws = s.draws := rfl

@[simp] theorem State.accumulate_st (s : State) (i : Nat) (b : Byte) :
    (s.accumulate i b).st = s.st := rfl
@[simp] theorem State.accumulate_plen (s : State) (i : Nat) (b : Byte) :
    (s.accumulate i b).plen = s.plen := rfl
@[simp] theorem State.accumulate_pend (s : State) (i : Nat) (b : Byte) :
    (s.accumulate i b).pend = s.pend - 1#6 := rfl
@[simp] theorem State.accumulate_buf (s : State) (i : Nat) (b : Byte) :
    (s.accumulate i b).buf = s.buf.write i b := rfl
@[simp] theorem State.accumulate_par (s : State) (i : Nat) (b : Byte) :
    (s.accumulate i b).par = s.par := rfl
@[simp] theorem State.accumulate_inputs (s : State) (i : Nat) (b : Byte) :
    (s.accumulate i b).inputs = s.inputs := rfl
@[simp] theorem State.accumulate_out (s : State) (i : Nat) (b : Byte) :
    (s.accumulate i b).out = s.out := rfl
@[simp] theorem State.accumulate_draws (s : State) (i : Nat) (b : Byte) :
    (s.accumulate i b).draws = s.draws := rfl

@[simp] theorem State.silent_st (s : State) : (s.silent).st = s.st := rfl
@[simp] theorem State.silent_plen (s : State) : (s.silent).plen = s.plen := rfl
@[simp] theorem State.silent_pend (s : State) : (s.silent).pend = s.pend := rfl
@[simp] theorem State.silent_buf (s : State) : (s.silent).buf = s.buf := rfl
@[simp] theorem State.silent_par (s : State) : (s.silent).par = s.par := rfl
@[simp] theorem State.silent_inputs (s : State) : (s.silent).inputs = s.inputs := rfl
@[simp] theorem State.silent_out (s : State) : (s.silent).out = undefinedOut s.draws := rfl
@[simp] theorem State.silent_draws (s : State) : (s.silent).draws = s.draws + 1 := rfl

@[simp] theorem State.hardReset_st (s : State) : (s.hardReset).st = .wfh := rfl
@[simp] theorem State.hardReset_plen (s : State) :
    (s.hardReset).plen = Config.freePlen s.draws := rfl
@[simp] theorem State.hardReset_pend (s : State) :
    (s.hardReset).pend = Config.freePend s.draws := rfl
@[simp] theorem State.hardReset_buf (s : State) : (s.hardReset).buf = [] := rfl
@[simp] theorem State.hardReset_par (s : State) : (s.hardReset).par = s.par := rfl
@[simp] theorem State.hardReset_inputs (s : State) : (s.hardReset).inputs = s.inputs := rfl
@[simp] theorem State.hardReset_out (s : State) : (s.hardReset).out = undefinedOut s.draws := rfl
@[simp] theorem State.hardReset_draws (s : State) : (s.hardReset).draws = s.draws + 1 := rfl

@[simp] theorem State.popInput_st (s : State) : (s.popInput).st = s.st := rfl
@[simp] theorem State.popInput_plen (s : State) : (s.popInput).plen = s.plen := rfl
@[simp] theorem State.popInput_pend (s : State) : (s.popInput).pend = s.pend := rfl
@[simp] theorem State.popInput_buf (s : State) : (s.popInput).buf = s.buf := rfl
@[simp] theorem State.popInput_par (s : State) : (s.popInput).par = s.par := rfl
@[simp] theorem State.popInput_inputs (s : State) : (s.popInput).inputs = s.inputs.tail := rfl
@[simp] theorem State.popInput_out (s : State) : (s.popInput).out = s.out := rfl
@[simp] theorem State.popInput_draws (s : State) : (s.popInput).draws = s.draws := rfl

@[simp] theorem updateOut_outcome (o : ParseOutcome) (h : Byte) (l : Count) (n : Nat) :
    (updateOut o h l n).outcome = o.code := rfl
@[simp] theorem updateOut_headerByte (o : ParseOutcome) (h : Byte) (l : Count) (n : Nat) :
    (updateOut o h l n).headerByte = h := rfl
@[simp] theorem updateOut_payloadLength (o : ParseOutcome) (h : Byte) (l : Count) (n : Nat) :
    (updateOut o h l n).payloadLength = if o.definesLength then l else Config.freePayloadLength n :=
  rfl
@[simp] theorem readOut_dout (v : Byte) (n : Nat) : (readOut v n).dout = v := rfl

/-- The outcome codes are distinct (R32). -/
theorem ParseOutcome.code_injective {o o' : ParseOutcome} (h : o.code = o'.code) : o = o' := by
  cases o <;> cases o' <;> first | rfl | exact absurd h (by decide)

/-- A store changes what is read at its own index only. -/
theorem State.readBuf_writeBuf (s : State) (i j : Nat) (v : Byte) :
    (s.writeBuf i v).readBuf j = if j = i then v else s.readBuf j := by
  unfold State.readBuf
  simp only [State.writeBuf_buf, State.writeBuf_draws, Memory.read_write]
  split_ifs <;> rfl

/-- The accumulating store changes what is read at its own index only. -/
theorem State.readBuf_accumulate (s : State) (i j : Nat) (b : Byte) :
    (s.accumulate i b).readBuf j = if j = i then b else s.readBuf j :=
  s.readBuf_writeBuf i j b

@[simp] theorem State.readBuf_openFrame (s : State) (len : Count) (j : Nat) :
    (s.openFrame len).readBuf j = s.readBuf j := rfl

@[simp] theorem State.bufUpTo_length (s : State) (n : Nat) : (s.bufUpTo n).length = n + 1 := by
  simp [State.bufUpTo]

end Sys2Proof.Machine
end

