-- ==== Sys2Proof/Laws/Ops.lean ====
section
/-! SUPPORT. For each shared operation, one lemma that says everything it can do. -/

namespace Sys2Proof.Machine

/-- The index of a window offset (R44). -/
theorem windowIndex_eq_some {off : Count} {i : Nat} :
    windowIndex off = some i ↔ off.toNat ≤ 32 ∧ i = 1 + off.toNat := by
  by_cases h : off.toNat ≤ 32
  · simp [windowIndex, offsetLegal_eq_true.mpr h, h, eq_comm]
  · simp [windowIndex, offsetLegal_eq_false.mpr (not_le.mp h), h]

theorem windowIndex_eq_none {off : Count} : windowIndex off = none ↔ 32 < off.toNat := by
  simp [windowIndex, offsetLegal_eq_true]

/-- The write cursor, where the counters give one (R28). -/
theorem writeCursor_eq_some {plen pend : Count} {i : Nat} :
    writeCursor plen pend = some i ↔
      1 ≤ pend.toNat ∧ pend.toNat ≤ plen.toNat + 1 ∧ i < 34 ∧ i = plen.toNat + 2 - pend.toNat := by
  unfold writeCursor Config.bufCap
  split_ifs with h
  · rw [Option.some.injEq]; omega
  · constructor
    · intro h'; cases h'
    · omega

/-- Everything UPDATE can do in WFH (R101 to R105): it never stops. -/
theorem updateHeader_cases (b : Byte) (s : State) :
    ((classify s.par b).payloadLength = none ∧
      updateHeader b s = .next ((s.writeBuf 0 b).concludeWfh .receivedInvalidHeader)) ∨
    ((classify s.par b).payloadLength = some 0#6 ∧ sanitizedClass b = s.par.classAck ∧
      updateHeader b s = .next ((s.writeBuf 0 b).concludeWfh .receivedSysAck)) ∨
    ((classify s.par b).payloadLength = some 0#6 ∧ sanitizedClass b ≠ s.par.classAck ∧
      sanitizedClass b = s.par.classNack ∧
      updateHeader b s = .next ((s.writeBuf 0 b).concludeWfh .receivedSysNack)) ∨
    (∃ l, (classify s.par b).payloadLength = some l ∧ l.toNat ∈ [1, 2, 4, 8, 16, 32] ∧
      updateHeader b s = .next (((s.writeBuf 0 b).openFrame l).conclude .insufficientData)) := by
  cases h : (classify s.par b).payloadLength with
  | none => exact .inl ⟨rfl, by simp [updateHeader, h]⟩
  | some l =>
    right
    by_cases hl : l = 0#6
    · subst hl
      by_cases ha : sanitizedClass b = s.par.classAck
      · exact .inl ⟨rfl, ha, by simp [updateHeader, h, ha]⟩
      · have hn : sanitizedClass b = s.par.classNack := by
          rcases classify_some h with ⟨h1, -, -⟩ | ⟨-, -, h1⟩ | ⟨-, h2, h1⟩
          · exact h1.resolve_left ha
          · simp at h1
          · have := lengthOfCode_toNat h2
            rw [← h1] at this
            exact absurd this.symm (Nat.pow_pos (by omega : 0 < 2)).ne'
        exact .inr (.inl ⟨rfl, ha, hn, by simp [updateHeader, h, ← hn, ha]⟩)
    · exact .inr (.inr ⟨l, rfl, (classify_length h).resolve_left hl, by simp [updateHeader, h, hl]⟩)

/-- Everything that finishing a frame can do (R108 to R112). -/
theorem finishFrame_cases (s : State) :
    (s.computedChecksum ≠ s.readBuf (s.plen.toNat + 1) ∧
      finishFrame s = .next (s.concludeWfh .receivedCmdInvalidFcs)) ∨
    (s.computedChecksum = s.readBuf (s.plen.toNat + 1) ∧
      sanitizedClass (s.readBuf 0) = s.par.classSelect ∧
      finishFrame s = .next (s.concludeWfh .receivedCmdSelect)) ∨
    (s.computedChecksum = s.readBuf (s.plen.toNat + 1) ∧
      sanitizedClass (s.readBuf 0) ≠ s.par.classSelect ∧
      sanitizedClass (s.readBuf 0) = s.par.classWrite ∧
      finishFrame s = .next (s.concludeWfh .receivedCmdWrite)) ∨
    (s.computedChecksum = s.readBuf (s.plen.toNat + 1) ∧
      sanitizedClass (s.readBuf 0) ≠ s.par.classSelect ∧
      sanitizedClass (s.readBuf 0) ≠ s.par.classWrite ∧
      finishFrame s = .fault .unrecognizedCmdSubtype) := by
  unfold finishFrame
  split_ifs <;> simp_all

/-- Everything UPDATE can do in WFP (R106 to R112). -/
theorem updatePayload_cases (b : Byte) (s : State) :
    (writeCursor s.plen s.pend = none ∧ updatePayload b s = .fault .cursorOutsideBuffer) ∨
    ∃ i, writeCursor s.plen s.pend = some i ∧
      ((s.pend ≠ 1#6 ∧ updatePayload b s = .next ((s.accumulate i b).conclude .insufficientData)) ∨
       (s.pend = 1#6 ∧ i = s.plen.toNat + 1 ∧ updatePayload b s = finishFrame (s.accumulate i b))) := by
  cases h : writeCursor s.plen s.pend with
  | none => exact .inl ⟨rfl, by simp [updatePayload, h]⟩
  | some i =>
    refine .inr ⟨i, rfl, ?_⟩
    by_cases hp : s.pend = 1#6
    · have hi := writeCursor_eq_some.mp h
      have h1 : s.pend.toNat = 1 := by rw [hp]; rfl
      have hp0 : s.pend - 1#6 = 0#6 := by rw [hp]; rfl
      exact .inr ⟨hp, by omega, by simp [updatePayload, h, hp0]⟩
    · have : s.pend - 1#6 ≠ 0#6 := by
        intro e; exact hp (by bv_omega)
      exact .inl ⟨hp, by simp [updatePayload, h, this]⟩

/-- Everything PLD_RD can do (R123, R45). -/
theorem execPldRd_cases (off : Count) (s : State) :
    (32 < off.toNat ∧ execPldRd off s = .refused (.offsetOutsideWindow off)) ∨
    (off.toNat ≤ 32 ∧ execPldRd off s =
      .next { s with out := readOut (s.readBuf (1 + off.toNat)) s.draws, draws := s.draws + 1 }) := by
  by_cases h : off.toNat ≤ 32
  · exact .inr ⟨h, by simp [execPldRd, windowIndex_eq_some.mpr ⟨h, rfl⟩]⟩
  · exact .inl ⟨by omega, by simp [execPldRd, windowIndex_eq_none.mpr (not_le.mp h)]⟩

/-- Everything PLD_WR can do (R124, R45). -/
theorem execPldWr_cases (off : Count) (v : Byte) (s : State) :
    (32 < off.toNat ∧ execPldWr off v s = .refused (.offsetOutsideWindow off)) ∨
    (off.toNat ≤ 32 ∧ execPldWr off v s = .next (s.writeBuf (1 + off.toNat) v).silent) := by
  by_cases h : off.toNat ≤ 32
  · exact .inr ⟨h, by simp [execPldWr, windowIndex_eq_some.mpr ⟨h, rfl⟩]⟩
  · exact .inl ⟨by omega, by simp [execPldWr, windowIndex_eq_none.mpr (not_le.mp h)]⟩

/-- Everything a step can do. -/
theorem step_cases (s : State) :
    (s.fetch = .hardReset ∧ step s = .next s.popInput.hardReset) ∨
    (s.fetch = .idle ∧ step s = .next s.popInput.silent) ∨
    (∃ q i, s.fetch = .operation q ∧ decode s.par s.st q = .ok i ∧ step s = exec i s.popInput) ∨
    (∃ q r, s.fetch = .operation q ∧ decode s.par s.st q = .error r ∧
      step s = .refused (refusalOf r)) := by
  unfold step
  cases h : s.fetch with
  | hardReset => simp
  | idle => simp
  | operation q => cases hd : decode s.par s.st q <;> simp [hd]

end Sys2Proof.Machine
end

