-- ==== Sys2Proof/Laws/PerInstr.lean ====
section
/-! SUPPORT. What holds of every instruction as it is written: its encoding presents an operation that
has a meaning (30_encoding.md R67, 20_memory.md R45). -/

namespace Sys2Proof.Laws

open Sys2Proof.Machine

/-- The port values of a well-formed instruction are legal inputs. -/
def EncodesLegally.Statement (i : Instr) : Prop :=
  ∀ (p : Params) (st : ParserState), WellFormed p st i = true → legalInput (encode p i) = true

theorem EncodesLegally.sysNack : EncodesLegally.Statement .sysNack :=
  fun _ _ _ => rfl

theorem EncodesLegally.sysAck : EncodesLegally.Statement .sysAck :=
  fun _ _ _ => rfl

theorem EncodesLegally.cmdSelect : EncodesLegally.Statement .cmdSelect :=
  fun _ _ _ => rfl

theorem EncodesLegally.cmdWrite1 : EncodesLegally.Statement .cmdWrite1 :=
  fun _ _ _ => rfl

theorem EncodesLegally.cmdWrite2 : EncodesLegally.Statement .cmdWrite2 :=
  fun _ _ _ => rfl

theorem EncodesLegally.cmdWrite4 : EncodesLegally.Statement .cmdWrite4 :=
  fun _ _ _ => rfl

theorem EncodesLegally.cmdWrite8 : EncodesLegally.Statement .cmdWrite8 :=
  fun _ _ _ => rfl

theorem EncodesLegally.cmdWrite16 : EncodesLegally.Statement .cmdWrite16 :=
  fun _ _ _ => rfl

theorem EncodesLegally.cmdWrite32 : EncodesLegally.Statement .cmdWrite32 :=
  fun _ _ _ => rfl

theorem EncodesLegally.update (b : Byte) : EncodesLegally.Statement (.update b) :=
  fun _ _ _ => rfl

theorem EncodesLegally.reset : EncodesLegally.Statement .reset :=
  fun _ _ _ => rfl

theorem EncodesLegally.pldRd (off : Count) : EncodesLegally.Statement (.pldRd off) :=
  by
  intro p st h
  simp only [WellFormed] at h
  simp [encode, present, legalInput, presented, h]

theorem EncodesLegally.pldWr (off : Count) (v : Byte) : EncodesLegally.Statement (.pldWr off v) :=
  by
  intro p st h
  simp only [WellFormed] at h
  simp [encode, present, legalInput, presented, h]

end Sys2Proof.Laws
end

