-- ==== Sys2Proof/Laws/Run.lean ====
section
/-! SUPPORT. How runs of several steps are taken apart. -/

namespace Sys2Proof.Machine

@[simp] theorem runSteps_zero (s : State) : runSteps 0 s = .next s := rfl

/-- A run begins with a step. -/
theorem runSteps_succ {n : Nat} {s t : State} (h : step s = .next t) :
    runSteps (n + 1) s = runSteps n t := by
  have h' : Sys2Proof.core.step s = .next t := h
  simp only [runSteps, Host.Core.run, h']; rfl

/-- A run that gives a state begins with a step that gives one. -/
theorem runSteps_succ_next {n : Nat} {s u : State} (h : runSteps (n + 1) s = .next u) :
    ∃ t, step s = .next t ∧ runSteps n t = .next u := by
  cases hs : step s with
  | next t => exact ⟨t, rfl, (runSteps_succ hs).symm.trans h⟩
  | fault r =>
    have h' : Sys2Proof.core.step s = .fault r := hs
    simp only [runSteps, Host.Core.run, h', reduceCtorEq] at h
  | refused r =>
    have h' : Sys2Proof.core.step s = .refused r := hs
    simp only [runSteps, Host.Core.run, h', reduceCtorEq] at h

/-- A run of one step is a step. -/
theorem runSteps_one (s : State) : runSteps 1 s = step s := by
  cases hs : step s with
  | next t => exact runSteps_succ hs
  | fault r =>
    have h' : Sys2Proof.core.step s = .fault r := hs
    simp only [runSteps, Host.Core.run, h']; rfl
  | refused r =>
    have h' : Sys2Proof.core.step s = .refused r := hs
    simp only [runSteps, Host.Core.run, h']; rfl

/-- A run is a run followed by a run. -/
theorem runSteps_add {m n : Nat} {s t : State} (h : runSteps m s = .next t) :
    runSteps (m + n) s = runSteps n t := by
  induction m generalizing s with
  | zero => cases h; simp
  | succ m ih =>
    obtain ⟨u, hu, h⟩ := runSteps_succ_next h
    rw [show m + 1 + n = m + n + 1 by omega, runSteps_succ hu]
    exact ih h

/-- A run of one step more. -/
theorem runSteps_end {n : Nat} {s t : State} (h : runSteps n s = .next t) :
    runSteps (n + 1) s = step t := by
  rw [runSteps_add h, runSteps_one]

end Sys2Proof.Machine
end

