-- ==== Sys2Proof/Tests/Slice0.lean ====
section
/-! SUPPORT. Small tests with results taken from 95_test_vectors.md (V2, V3, V4, P1, P3, V7.3: default
catalogue and checksum), the smoke test of WellFormed, and for every statement a witness that its
hypotheses can be met together. -/

namespace Sys2Proof.Tests

open Sys2Proof.Machine

/-! ## Helpers -/

/-- The machine after reset but for the block's own registers. -/
def block (st : ParserState) (plen pend : Count) (buf : Memory) : State :=
  { State.reset with st := st, plen := plen, pend := pend, buf := buf }

/-- A next state with a property. -/
def nextHas (o : Host.Outcome State Fault Refusal) (p : State → Bool) : Bool :=
  match o with
  | .next t => p t
  | .fault _ | .refused _ => false

/-- The first `n` bytes of the frame with header 0x6C and payload bytes 1, 2, 3, … -/
def longFrame (n : Nat) : Memory :=
  (List.range n).map (fun i => (i, if i = 0 then 0x6C#8 else BitVec.ofNat 8 i))

/-- In the middle of `WRITE 0x12, 0x34` (V4.3), the header taken. -/
def midWrite : State := block .wfp 2#6 3#6 [(0, 0x4C#8)]

/-- `WRITE 0x12, 0x34` (V4.3) before its checksum byte 0x95. -/
def endWrite : State := block .wfp 2#6 1#6 [(0, 0x4C#8), (1, 0x12#8), (2, 0x34#8)]

/-- `SELECT 0x02` (V4.1) before its checksum byte 0xBE. -/
def endSelect : State := block .wfp 1#6 1#6 [(0, 0x43#8), (1, 0x02#8)]

/-- A frame of 32 payload bytes (P6) before its checksum byte. -/
def endLong : State := block .wfp 32#6 1#6 (longFrame 33)

/-- The reset state with something presented. -/
def feeding (l : List PortIn) : State := { State.reset with inputs := l }

/-! ## WellFormed: one ill-formed term for each check -/

theorem test_wf_rejects_read_offset_33 : WellFormed Config.defaultParams .wfh (.pldRd 33#6) = false := by
  decide
theorem test_wf_rejects_write_offset_63 :
    WellFormed Config.defaultParams .wfp (.pldWr 63#6 0#8) = false := by decide
theorem test_wf_rejects_update_of_catalogue_byte_in_wfh :
    WellFormed Config.defaultParams .wfh (.update 0x6C#8) = false := by decide
theorem test_wf_rejects_header_row_in_wfp :
    WellFormed Config.defaultParams .wfp .cmdSelect = false := by decide

/-! ## Decoding: words written out from 30_encoding.md R64 (header bytes) and R67 (`op` codes) -/

theorem test_decode_sysNack :
    decode Config.defaultParams .wfh (presentUpdate 0b00000010#8) = .ok .sysNack := by decide
theorem test_decode_sysAck :
    decode Config.defaultParams .wfh (presentUpdate 0b00000100#8) = .ok .sysAck := by decide
theorem test_decode_cmdSelect :
    decode Config.defaultParams .wfh (presentUpdate 0b01000011#8) = .ok .cmdSelect := by decide
theorem test_decode_cmdWrite1 :
    decode Config.defaultParams .wfh (presentUpdate 0b01000100#8) = .ok .cmdWrite1 := by decide
theorem test_decode_cmdWrite2 :
    decode Config.defaultParams .wfh (presentUpdate 0b01001100#8) = .ok .cmdWrite2 := by decide
theorem test_decode_cmdWrite4 :
    decode Config.defaultParams .wfh (presentUpdate 0b01010100#8) = .ok .cmdWrite4 := by decide
theorem test_decode_cmdWrite8 :
    decode Config.defaultParams .wfh (presentUpdate 0b01011100#8) = .ok .cmdWrite8 := by decide
theorem test_decode_cmdWrite16 :
    decode Config.defaultParams .wfh (presentUpdate 0b01100100#8) = .ok .cmdWrite16 := by decide
theorem test_decode_cmdWrite32 :
    decode Config.defaultParams .wfh (presentUpdate 0b01101100#8) = .ok .cmdWrite32 := by decide
theorem test_decode_update_in_wfp :
    decode Config.defaultParams .wfp ⟨false, true, 0b00#2, 0x43#8, 0#6⟩ = .ok (.update 0x43#8) := by
  decide
theorem test_decode_reset :
    decode Config.defaultParams .wfh ⟨false, true, 0b01#2, 0#8, 0#6⟩ = .ok .reset := by decide
theorem test_decode_pldRd :
    decode Config.defaultParams .wfh ⟨false, true, 0b10#2, 0#8, 32#6⟩ = .ok (.pldRd 32#6) := by decide
theorem test_decode_pldWr :
    decode Config.defaultParams .wfh ⟨false, true, 0b11#2, 0xEE#8, 0#6⟩ = .ok (.pldWr 0#6 0xEE#8) := by
  decide
theorem test_decode_rejects_offset_33 : decode Config.defaultParams .wfh
    ⟨false, true, 0b10#2, 0#8, 33#6⟩ = .error (.offsetOutsideWindow 33#6) := by decide

/-- The table's own words (notes/assumptions/16.md says how 0x02 is read). -/
theorem test_table_words :
    [0x02, 0x04, 0x43, 0x44, 0x4C, 0x54, 0x5C, 0x64, 0x6C, 0, 1, 3].map (decodeTableWord 8) =
      [some .sysNack, some .sysAck, some .cmdSelect, some .cmdWrite1, some .cmdWrite2,
        some .cmdWrite4, some .cmdWrite8, some .cmdWrite16, some .cmdWrite32, some (.update 0#8),
        some .reset, some (.pldWr 0#6 0#8)] := by decide
theorem test_table_op_words : [0, 1, 2, 3].map (decodeTableWord 2) =
    [some (.update 0#8), some .reset, some (.pldRd 0#6), some (.pldWr 0#6 0#8)] := by decide
/-- The very next step runs the word: 0x5C opens a frame of 8 (V3). -/
theorem test_fetch_word : nextHas (step (State.reset.withFetchWord 8 0x5C))
    (fun t => t.st = .wfp && t.plen = 8#6 && t.pend = 9#6) = true := by decide

/-! ## classify: the grid V1 (9 valid, 247 invalid) and V2 -/

theorem test_classify_grid :
    ((List.range 256).filter (fun n => (classify Config.defaultParams (BitVec.ofNat 8 n)).valid)) =
      [0x02, 0x04, 0x43, 0x44, 0x4C, 0x54, 0x5C, 0x64, 0x6C] := by decide
theorem test_classify_write_code_6 :
    classify Config.defaultParams 0x74#8 = ⟨0x44#8, none⟩ := by decide
/-- R139's default over `4C 12 34` is 0x95 (V4.3). -/
theorem test_checksum_default : ChecksumFn.xorFF.eval [0x4C#8, 0x12#8, 0x34#8] = 0x95#8 := by decide

/-! ## One step of each instruction -/

/-- V3, `UPD 0x02`. -/
theorem test_sysNack : nextHas (exec .sysNack State.reset)
    (fun t => t.st = .wfh && t.out.outcome = 3#3 && t.out.headerByte = 0x02#8) = true := by decide
/-- V3, `UPD 0x04`. -/
theorem test_sysAck : nextHas (exec .sysAck State.reset)
    (fun t => t.st = .wfh && t.out.outcome = 2#3 && t.out.headerByte = 0x04#8) = true := by decide
/-- V3, `UPD 0x43`. -/
theorem test_cmdSelect : nextHas (exec .cmdSelect State.reset)
    (fun t => t.st = .wfp && t.plen = 1#6 && t.pend = 2#6 && t.out.outcome = 0#3) = true := by decide
/-- V3, `UPD 0x44`. -/
theorem test_cmdWrite1 : nextHas (exec .cmdWrite1 State.reset)
    (fun t => t.st = .wfp && t.plen = 1#6 && t.pend = 2#6 && t.out.headerByte = 0x44#8) = true := by
  decide
/-- V4.8: a header byte inside a frame is payload (here 0x4C at index 1 of `midWrite`). -/
theorem test_cmdWrite2_in_wfp : nextHas (exec .cmdWrite2 midWrite)
    (fun t => t.buf = [(0, 0x4C#8), (1, 0x4C#8)] && t.pend = 2#6 && t.plen = 2#6) = true := by decide
/-- V3, `UPD 0x4C`. -/
theorem test_cmdWrite2 : nextHas (exec .cmdWrite2 State.reset)
    (fun t => t.plen = 2#6 && t.pend = 3#6 && t.buf = [(0, 0x4C#8)]) = true := by decide
/-- V3, `UPD 0x54`. -/
theorem test_cmdWrite4 : nextHas (exec .cmdWrite4 State.reset)
    (fun t => t.plen = 4#6 && t.pend = 5#6 && t.buf = [(0, 0x54#8)]) = true := by decide
/-- V3, `UPD 0x5C`. -/
theorem test_cmdWrite8 : nextHas (exec .cmdWrite8 State.reset)
    (fun t => t.plen = 8#6 && t.pend = 9#6 && t.buf = [(0, 0x5C#8)]) = true := by decide
/-- V3, `UPD 0x64`. -/
theorem test_cmdWrite16 : nextHas (exec .cmdWrite16 State.reset)
    (fun t => t.plen = 16#6 && t.pend = 17#6 && t.buf = [(0, 0x64#8)]) = true := by decide
/-- V3, `UPD 0x6C`. -/
theorem test_cmdWrite32 : nextHas (exec .cmdWrite32 State.reset)
    (fun t => t.plen = 32#6 && t.pend = 33#6 && t.buf = [(0, 0x6C#8)]) = true := by decide
/-- V4.3, the last byte. -/
theorem test_update_write_ends : nextHas (exec (.update 0x95#8) endWrite)
    (fun t => t.st = .wfh && t.out.outcome = 5#3 && t.out.headerByte = 0x4C#8 &&
      t.out.payloadLength = 2#6 && t.buf.read 3 = some 0x95#8) = true := by decide
/-- V5: the checksum byte of V4.3 off by 0x80. -/
theorem test_update_mismatch : nextHas (exec (.update 0x15#8) endWrite)
    (fun t => t.st = .wfh && t.out.outcome = 6#3 && t.out.headerByte = 0x4C#8 &&
      t.out.payloadLength = 2#6) = true := by decide
/-- P2 step 5: RESET in mid-frame keeps the bytes. -/
theorem test_reset : nextHas (exec .reset midWrite)
    (fun t => t.st = .wfh && t.buf = [(0, 0x4C#8)]) = true := by decide
/-- V7.3: `PRD 1` after V4.3. -/
theorem test_pldRd : nextHas (exec (.pldRd 1#6) endWrite)
    (fun t => t.out.dout = 0x34#8 && t.st = .wfp && t.pend = 1#6) = true := by decide
/-- V7.3: `PRD 33` is refused. -/
theorem test_pldRd_refused : exec (.pldRd 33#6) endWrite = .refused (.offsetOutsideWindow 33#6) := rfl
/-- P5 step 3: `PWR 0` in mid-frame. -/
theorem test_pldWr : nextHas (exec (.pldWr 0#6 0x13#8) endWrite)
    (fun t => t.buf = [(0, 0x4C#8), (1, 0x13#8), (2, 0x34#8)] && t.st = .wfp && t.pend = 1#6) = true := by
  decide
/-- The window's last byte: index 33 (P6). -/
theorem test_pldWr_top : nextHas (exec (.pldWr 32#6 0xF3#8) State.reset)
    (fun t => t.buf = [(33, 0xF3#8)]) = true := by decide
/-- R170: `rst` wins over the operation presented with it. -/
theorem test_hard_reset : nextHas (step { midWrite with inputs := [{ presentUpdate 0x12#8 with rst := true }] })
    (fun t => t.st = .wfh && t.buf = [] && t.inputs = []) = true := by decide

/-! ## Witnesses: the hypotheses of each statement, met together -/

theorem witness_distinct : Config.defaultParams.Distinct := by decide

theorem midWrite_frameInv : midWrite.FrameInv :=
  ⟨by decide, by decide, by decide, ⟨0x4C#8, by decide, by decide, by decide⟩, by decide⟩
theorem endWrite_frameInv : endWrite.FrameInv :=
  ⟨by decide, by decide, by decide, ⟨0x4C#8, by decide, by decide, by decide⟩, by decide⟩
theorem endSelect_frameInv : endSelect.FrameInv :=
  ⟨by decide, by decide, by decide, ⟨0x43#8, by decide, by decide, by decide⟩, by decide⟩
theorem endLong_frameInv : endLong.FrameInv :=
  ⟨by decide, by decide, by decide, ⟨0x6C#8, by decide, by decide, by decide⟩, by decide⟩
theorem midWrite_inv : midWrite.Inv := ⟨by decide, by decide, fun _ => midWrite_frameInv⟩

/-- DecodeEncodeRoundTrip: a header row in WFH, a byte in WFP, an offset at its bound. -/
theorem witness_roundTrip : Config.defaultParams.Distinct ∧
    WellFormed Config.defaultParams .wfh .cmdWrite32 = true ∧
    WellFormed Config.defaultParams .wfp (.update 0x43#8) = true ∧
    WellFormed Config.defaultParams .wfh (.pldRd 32#6) = true := by decide
/-- DecodedIsWellFormedAndSame. -/
theorem witness_decoded : decode Config.defaultParams .wfh ⟨false, true, 0b11#2, 7#8, 32#6⟩ =
    .ok (.pldWr 32#6 7#8) := by decide
/-- UnusedPortsHaveNoEffect: each clause. -/
theorem witness_unusedPorts : (presentUpdate 1#8).op = 0b00#2 ∧ presentReset.op = 0b01#2 ∧
    (presentRead 0#6).op = 0b10#2 := by decide
/-- OffsetOutsideWindowRefused: the first offset outside, through the step too. -/
theorem witness_offset : 32 < (33#6 : Count).toNat ∧
    (feeding [presentRead 33#6]).fetch = .operation (presentRead 33#6) ∧
    (presentRead 33#6).op = 0b10#2 ∧ (presentRead 33#6).off = 33#6 ∧
    (feeding [presentWrite 33#6 0#8]).fetch = .operation (presentWrite 33#6 0#8) ∧
    (presentWrite 33#6 0#8).op = 0b11#2 := by decide
/-- ClassifyByClass: a byte for each clause. -/
theorem witness_classes :
    let p := Config.defaultParams
    p.Distinct ∧ sanitizedClass 0x3C#8 = p.classAck ∧ sanitizedClass 0x02#8 = p.classNack ∧
    sanitizedClass 0x7B#8 = p.classSelect ∧ sanitizedClass 0x6C#8 = p.classWrite ∧
    (classify p 0x6C#8).payloadLength = some 32#6 ∧
    sanitizedClass 0xFF#8 ∉ [p.classAck, p.classNack, p.classSelect, p.classWrite] := by decide
/-- InvalidHeaderReported: WFH and the first invalid length code of WRITE. -/
theorem witness_invalidHeader : State.reset.st = .wfh ∧
    (classify State.reset.par 0x74#8).valid = false := by decide
/-- SysAckReported, SysNackReported. -/
theorem witness_sys : State.reset.par.Distinct ∧ State.reset.st = .wfh := by decide
/-- CmdHeaderOpensFrame: the shortest and the longest length. -/
theorem witness_cmdHeader : State.reset.st = .wfh ∧
    (classify State.reset.par 0x43#8).payloadLength = some 1#6 ∧
    (classify State.reset.par 0x6C#8).payloadLength = some 32#6 ∧ 0 < (1#6 : Count).toNat := by decide
/-- CmdRowsOpenTheirFrames: the first and the last row, in the statement's own list. -/
theorem witness_cmdRows :
    let s := State.reset
    let rows : List (Instr × Byte × Count) :=
      [(Instr.cmdSelect, s.par.classSelect, 1#6), (.cmdWrite1, s.par.writeHeader 0#3, 1#6),
       (.cmdWrite2, s.par.writeHeader 1#3, 2#6), (.cmdWrite4, s.par.writeHeader 2#3, 4#6),
       (.cmdWrite8, s.par.writeHeader 3#3, 8#6), (.cmdWrite16, s.par.writeHeader 4#3, 16#6),
       (.cmdWrite32, s.par.writeHeader 5#3, 32#6)]
    s.par.Distinct ∧ s.st = .wfh ∧ (Instr.cmdSelect, 0x43#8, 1#6) ∈ rows ∧
    (Instr.cmdWrite32, 0x6C#8, 32#6) ∈ rows := by decide
/-- PayloadByteStored: the first byte of the longest frame, and its last payload byte. -/
theorem witness_payloadByte :
    let s := block .wfp 32#6 33#6 (longFrame 1)
    let t := block .wfp 32#6 2#6 (longFrame 32)
    (s.st = .wfp ∧ 1 < s.pend.toNat ∧ s.pend.toNat ≤ s.plen.toNat + 1 ∧ s.plen.toNat ≤ 32) ∧
    (t.st = .wfp ∧ 1 < t.pend.toNat ∧ t.pend.toNat ≤ t.plen.toNat + 1 ∧ t.plen.toNat ≤ 32) := by
  decide
/-- ChecksumMismatchReported: in a short frame, and in the longest. -/
theorem witness_mismatch :
    (endWrite.st = .wfp ∧ endWrite.pend = 1#6 ∧ endWrite.plen.toNat ≤ 32 ∧
      endWrite.par.checksum.eval (endWrite.bufUpTo endWrite.plen.toNat) ≠ 0x15#8) ∧
    (endLong.st = .wfp ∧ endLong.pend = 1#6 ∧ endLong.plen.toNat ≤ 32 ∧
      endLong.par.checksum.eval (endLong.bufUpTo endLong.plen.toNat) ≠ 0#8) := by decide
/-- SelectReported (V4.1). -/
theorem witness_select : endSelect.st = .wfp ∧ endSelect.pend = 1#6 ∧ endSelect.plen.toNat ≤ 32 ∧
    endSelect.par.Distinct ∧
    endSelect.par.checksum.eval (endSelect.bufUpTo endSelect.plen.toNat) = 0xBE#8 ∧
    sanitizedClass (endSelect.readBuf 0) = endSelect.par.classSelect := by decide
/-- Its first clause: the same state has the invariants of R25. -/
theorem witness_select_frameInv : endSelect.FrameInv := endSelect_frameInv
/-- WriteReported (V4.3). -/
theorem witness_write : endWrite.st = .wfp ∧ endWrite.pend = 1#6 ∧ endWrite.plen.toNat ≤ 32 ∧
    endWrite.par.Distinct ∧
    endWrite.par.checksum.eval (endWrite.bufUpTo endWrite.plen.toNat) = 0x95#8 ∧
    sanitizedClass (endWrite.readBuf 0) = endWrite.par.classWrite := by decide
/-- ChecksumInputIsWholeAndWritten: the shortest and the longest input. -/
theorem witness_checksumInput : (endSelect.FrameInv ∧ endSelect.pend = 1#6) ∧
    (endLong.FrameInv ∧ endLong.pend = 1#6) :=
  ⟨⟨endSelect_frameInv, rfl⟩, ⟨endLong_frameInv, rfl⟩⟩
/-- InsufficientDataMeansWfp: an UPDATE that ends in WFP, and one that ends in WFH. -/
theorem witness_insufficient :
    (∃ t, exec (.update 0x12#8) midWrite = .next t ∧ t.st = .wfp) ∧
    ∃ t, exec (.update 0x95#8) endWrite = .next t ∧ t.st = .wfh :=
  ⟨⟨_, rfl, rfl⟩, _, rfl, rfl⟩
/-- ReadyAfterTerminalOutcome. -/
theorem witness_ready : ∃ t, exec (.update 0x04#8) State.reset = .next t ∧
    t.out.outcome ≠ ParseOutcome.insufficientData.code ∧
    (classify State.reset.par 0xFF#8).valid = false :=
  ⟨_, rfl, by decide, by decide⟩
/-- PayloadReadShowsBuffer: a written byte at the top of the window. -/
theorem witness_read : (32#6 : Count).toNat ≤ 32 ∧
    (block .wfh 0#6 0#6 [(33, 0xF3#8)]).buf.read (1 + (32#6 : Count).toNat) = some 0xF3#8 := by decide
/-- PayloadWriteStoresByte, WindowReadAfterWrite: both ends of the window, and another written byte. -/
theorem witness_window : (0#6 : Count).toNat ≤ 32 ∧ (32#6 : Count).toNat ≤ 32 ∧ (32#6 : Count) ≠ 0#6 ∧
    (block .wfh 0#6 0#6 [(33, 0xF3#8)]).buf.read (1 + (32#6 : Count).toNat) = some 0xF3#8 := by decide
/-- StepRunsDecodedInstruction. -/
theorem witness_step :
    let q := presentUpdate 0x43#8
    (feeding [q]).inputs = q :: [] ∧ q.rst = false ∧ q.opValid = true ∧
    decode (feeding [q]).par (feeding [q]).st q = .ok .cmdSelect := by decide
/-- HardResetOverridesOperation. -/
theorem witness_hardReset :
    let q := { presentUpdate 0x12#8 with rst := true }
    ({ midWrite with inputs := [q] } : State).inputs = q :: [] ∧ q.rst = true := by decide
/-- IdleStepKeepsBlock: nothing presented, and `op_valid` = 0. -/
theorem witness_idle : midWrite.fetch = .idle ∧ (feeding [presentIdle]).fetch = .idle := by decide
/-- StepKeepsInvariant, StepKeepsCanonicalBuffer, ParametersNeverChange: a step from a sound state. -/
theorem witness_invariant : let s : State := { midWrite with inputs := [presentUpdate 0x12#8] }
    s.Inv ∧ s.buf.wf ∧ ∃ t, step s = .next t :=
  ⟨⟨by decide, by decide, fun _ => midWrite_frameInv⟩, by decide, _, rfl⟩
/-- SoundStateNeverFaults. -/
theorem witness_neverFaults : midWrite.Inv := midWrite_inv
/-- LegalInputsNeverStop: a sound state and legal inputs of every kind. -/
theorem witness_legal : let s : State := { midWrite with inputs :=
      [presentUpdate 0x12#8, presentRead 32#6, presentReset, presentIdle, presentHardReset] }
    s.Inv ∧ ∀ q ∈ s.inputs, legalInput q = true :=
  ⟨⟨by decide, by decide, fun _ => midWrite_frameInv⟩, by decide⟩
/-- AccessMatrixHolds: an UPDATE in WFP that writes index 1 and so not index 0. -/
theorem witness_access : bufTarget (.update 0x12#8) midWrite ≠ some 0 ∧
    ∃ t, exec (.update 0x12#8) midWrite = .next t := ⟨by decide, _, rfl⟩
/-- HeaderFixedWhileAccumulating. -/
theorem witness_headerFixed : let s : State := { midWrite with inputs := [presentUpdate 0x12#8] }
    s.st = .wfp ∧ ∃ t, step s = .next t ∧ t.st = .wfp := ⟨rfl, _, rfl, rfl⟩
/-- OnlyCmdHeaderLeavesWfh, and the second clause of CountersIrrelevantInWfh. -/
theorem witness_leavesWfh : let s := feeding [presentUpdate 0x43#8]
    s.st = .wfh ∧ ∃ t, step s = .next t ∧ t.st = .wfp := ⟨rfl, _, rfl, rfl⟩
/-- WaysOutOfWfp: by RESET, and by the last byte. -/
theorem witness_leavesWfp :
    (midWrite.st = .wfp ∧
      ∃ t, step { midWrite with inputs := [presentReset] } = .next t ∧ t.st = .wfh) ∧
    (endWrite.st = .wfp ∧
      ∃ t, step { endWrite with inputs := [presentUpdate 0x95#8] } = .next t ∧ t.st = .wfh) :=
  ⟨⟨rfl, _, rfl, rfl⟩, rfl, _, rfl, rfl⟩
/-- OpenWindowMeansWfh, second clause: a read while the window is open. -/
theorem witness_window_access : let s := feeding [presentRead 32#6]
    (true = true → s.st = .wfh) ∧ (∃ t, step s = .next t) ∧ accessAllowed true s.fetch = true ∧
    s.fetch = .operation (presentRead 32#6) ∧ (presentRead 32#6).op = 0b10#2 :=
  ⟨fun _ => rfl, ⟨_, rfl⟩, by decide, by decide, by decide⟩
/-- DisciplinedHostKeepsReceivedBytes: a payload byte inside a frame, which changes index 1. -/
theorem witness_disciplined : let s : State := { midWrite with inputs := [presentUpdate 0x12#8] }
    (false = true → s.st = .wfh) ∧ accessAllowed false s.fetch = true ∧ s.st = .wfp ∧
    ∃ t, step s = .next t ∧ t.st = .wfp ∧ t.buf.read 1 ≠ s.buf.read 1 :=
  ⟨(fun h => absurd h (by decide)), by decide, rfl, _, rfl, rfl, by decide⟩
/-- OpenWindowMeansWfh: a closed window that the last byte of a frame opens. -/
theorem witness_window_opens : let s : State := { endWrite with inputs := [presentUpdate 0x95#8] }
    (false = true → s.st = .wfh) ∧
    ∃ t, step s = .next t ∧ windowAfter false s.fetch t.out = true :=
  ⟨(fun h => absurd h (by decide)), _, rfl, by decide⟩
/-- The CMD item of the statements about frames: V4.3 with its checksum off by `d`. -/
theorem writeItem_sound (d : Byte) :
    (StreamItem.cmd 0x4C#8 [0x12#8, 0x34#8] d).sound Config.defaultParams :=
  ⟨by decide, by decide, by decide⟩
/-- FrameInProgressReported, CmdFrameReported: a right and a wrong checksum. -/
theorem witness_frame (d : Byte) :
    let s := feeding (feed (cmdFrame Config.defaultParams 0x4C#8 [0x12#8, 0x34#8] d))
    s.st = .wfh ∧ s.par.Distinct ∧ (StreamItem.cmd 0x4C#8 [0x12#8, 0x34#8] d).sound s.par ∧
    s.inputs = feed (cmdFrame s.par 0x4C#8 [0x12#8, 0x34#8] d) ++ [] ∧ 2 ≤ [0x12#8, 0x34#8].length :=
  ⟨rfl, witness_distinct, writeItem_sound d, by simp [feeding, State.reset], le_refl 2⟩
/-- FrameAfterResetReported: a RESET in the middle of another frame. -/
theorem witness_afterReset :
    let l := presentReset :: feed (cmdFrame Config.defaultParams 0x4C#8 [0x12#8, 0x34#8] 0#8)
    let s : State := { midWrite with inputs := l }
    s.par.Distinct ∧ (StreamItem.cmd 0x4C#8 [0x12#8, 0x34#8] 0#8).sound s.par ∧
    s.inputs = presentReset :: feed (cmdFrame s.par 0x4C#8 [0x12#8, 0x34#8] 0#8) ++ [] :=
  ⟨by decide, writeItem_sound 0#8, by simp [midWrite, block, State.reset]⟩
/-- StreamReportsItsItems: a WRITE frame, an ACK and a filler byte, then a NACK. -/
theorem witness_stream :
    let before := [StreamItem.cmd 0x4C#8 [0x12#8, 0x34#8] 0#8, .ack, .filler 0xFF#8]
    let s := feeding (feed ((before ++ [StreamItem.nack]).flatMap (StreamItem.bytes Config.defaultParams)))
    s.st = .wfh ∧ s.par.Distinct ∧ (∀ y ∈ before, y.sound s.par) ∧ StreamItem.nack.sound s.par ∧
    s.inputs = feed ((before ++ [StreamItem.nack]).flatMap (StreamItem.bytes s.par)) ++ [] := by
  refine ⟨rfl, by decide, ?_, trivial, by simp [feeding, State.reset]⟩
  intro y hy
  simp only [List.mem_cons, List.not_mem_nil, or_false] at hy
  rcases hy with rfl | rfl | rfl
  · exact writeItem_sound 0#8
  · trivial
  · exact (by decide : (classify Config.defaultParams 0xFF#8).valid = false)

end Sys2Proof.Tests
end

