-- ==== Sys2Proof/Proofs/Scope.lean ====
section
/-! SUPPORT. The step and the operation it decodes (00_scope.md R10), and the parameters and host inputs
that no instruction touches (R11, R12). -/

namespace Sys2Proof.Machine

/-! ## A step with an operation presented -/

theorem State.fetch_of_inputs {s : State} {q : PortIn} {rest : List PortIn}
    (h : s.inputs = q :: rest) : s.fetch = presented q := by
  simp only [State.fetch, h]

theorem presented_operation {q : PortIn} (hrst : q.rst = false) (hop : q.opValid = true) :
    presented q = .operation q := by
  simp [presented, hrst, hop]

theorem State.popInput_of_inputs {s : State} {q : PortIn} {rest : List PortIn}
    (h : s.inputs = q :: rest) : s.popInput = { s with inputs := rest } := by
  simp only [State.popInput, h, List.tail_cons]

theorem step_of_decoded {s : State} {q : PortIn} {i : Instr} (hf : s.fetch = .operation q)
    (hd : decode s.par s.st q = .ok i) : step s = exec i s.popInput := by
  simp only [step, hf, hd]

/-! ## What an instruction leaves to the host -/

/-- There are four kinds of instruction: a header row is the UPDATE of its byte (R63). -/
theorem exec_cases (i : Instr) (s : State) :
    (∃ b, exec i s = updateByte b s) ∨ exec i s = execReset s ∨
    (∃ off, exec i s = execPldRd off s) ∨ ∃ off v, exec i s = execPldWr off v s := by
  cases i with
  | sysNack | sysAck | cmdSelect | cmdWrite1 | cmdWrite2 | cmdWrite4 | cmdWrite8 | cmdWrite16
  | cmdWrite32 | update b => exact .inl ⟨_, rfl⟩
  | reset => exact .inr (.inl rfl)
  | pldRd off => exact .inr (.inr (.inl ⟨off, rfl⟩))
  | pldWr off v => exact .inr (.inr (.inr ⟨off, v, rfl⟩))

theorem KeepsHost.trans {s t u : State} (hst : KeepsHost s t) (htu : KeepsHost t u) :
    KeepsHost s u :=
  ⟨htu.1.trans hst.1, htu.2.trans hst.2⟩

theorem updateHeader_keepsHost {b : Byte} {s t : State} (h : updateHeader b s = .next t) :
    KeepsHost s t := by
  rcases updateHeader_cases b s with ⟨-, e⟩ | ⟨-, -, e⟩ | ⟨-, -, -, e⟩ | ⟨l, -, -, e⟩
  all_goals cases e.symm.trans h
  all_goals exact ⟨rfl, rfl⟩

theorem finishFrame_keepsHost {s t : State} (h : finishFrame s = .next t) : KeepsHost s t := by
  rcases finishFrame_cases s with ⟨-, e⟩ | ⟨-, -, e⟩ | ⟨-, -, -, e⟩ | ⟨-, -, -, e⟩
  all_goals cases e.symm.trans h
  all_goals exact ⟨rfl, rfl⟩

theorem updatePayload_keepsHost {b : Byte} {s t : State} (h : updatePayload b s = .next t) :
    KeepsHost s t := by
  rcases updatePayload_cases b s with ⟨-, e⟩ | ⟨i, -, ⟨-, e⟩ | ⟨-, -, e⟩⟩
  · cases e.symm.trans h
  · cases e.symm.trans h
    exact ⟨rfl, rfl⟩
  · have hacc : KeepsHost s (s.accumulate i b) := ⟨rfl, rfl⟩
    exact hacc.trans (finishFrame_keepsHost (e.symm.trans h))

theorem updateByte_keepsHost {b : Byte} {s t : State} (h : updateByte b s = .next t) :
    KeepsHost s t := by
  unfold updateByte at h
  split at h
  · exact updateHeader_keepsHost h
  · exact updatePayload_keepsHost h

theorem execReset_keepsHost {s t : State} (h : execReset s = .next t) : KeepsHost s t := by
  cases h
  exact ⟨rfl, rfl⟩

theorem execPldRd_keepsHost {off : Count} {s t : State} (h : execPldRd off s = .next t) :
    KeepsHost s t := by
  rcases execPldRd_cases off s with ⟨-, e⟩ | ⟨-, e⟩
  all_goals cases e.symm.trans h
  all_goals exact ⟨rfl, rfl⟩

theorem execPldWr_keepsHost {off : Count} {v : Byte} {s t : State}
    (h : execPldWr off v s = .next t) : KeepsHost s t := by
  rcases execPldWr_cases off v s with ⟨-, e⟩ | ⟨-, e⟩
  all_goals cases e.symm.trans h
  all_goals exact ⟨rfl, rfl⟩

/-- No instruction changes a parameter or takes an input of its own (R11, R12). -/
theorem exec_keepsHost {i : Instr} {s t : State} (h : exec i s = .next t) : KeepsHost s t := by
  rcases exec_cases i s with ⟨b, e⟩ | e | ⟨off, e⟩ | ⟨off, v, e⟩
  · exact updateByte_keepsHost (e.symm.trans h)
  · exact execReset_keepsHost (e.symm.trans h)
  · exact execPldRd_keepsHost (e.symm.trans h)
  · exact execPldWr_keepsHost (e.symm.trans h)

/-- Whatever a step does, it does to the state with the input taken, and the host's part of that state
stays (R10, R12). -/
theorem step_keepsHost {s t : State} (h : step s = .next t) : KeepsHost s.popInput t := by
  rcases step_cases s with ⟨-, e⟩ | ⟨-, e⟩ | ⟨q, i, -, -, e⟩ | ⟨q, r, -, -, e⟩
  · cases e.symm.trans h
    exact ⟨rfl, rfl⟩
  · cases e.symm.trans h
    exact ⟨rfl, rfl⟩
  · exact exec_keepsHost (e.symm.trans h)
  · cases e.symm.trans h

/-! ## The obligations -/

/-- Settles O27. -/
theorem stepRunsDecodedInstruction : Obligations.StepRunsDecodedInstruction := by
  intro s q rest i hin hrst hop hdec
  have hfetch : s.fetch = .operation q :=
    (State.fetch_of_inputs hin).trans (presented_operation hrst hop)
  rw [step_of_decoded hfetch hdec, State.popInput_of_inputs hin]

/-- Settles O35: the input is taken before the step's case is run, and no case touches the host's part
of the state. -/
theorem parametersNeverChange : Obligations.ParametersNeverChange := by
  intro s t h
  obtain ⟨hpar, hinputs⟩ := step_keepsHost h
  exact ⟨hpar.trans s.popInput_par, hinputs.trans s.popInput_inputs⟩

end Sys2Proof.Machine
end

/-! SUPPORT. What one UPDATE and one step can do, each said once, and the statements on the state that
follow from it (10_state.md): the invariants R25, the transitions R21, the counters R22 and R23. -/

namespace Sys2Proof.Machine

/-! ## The step, by what the ports present -/

theorem updateByte_of_wfh {s : State} (b : Byte) (hst : s.st = .wfh) :
    updateByte b s = updateHeader b s := by
  simp only [updateByte, hst]

theorem updateByte_of_wfp {s : State} (b : Byte) (hst : s.st = .wfp) :
    updateByte b s = updatePayload b s := by
  simp only [updateByte, hst]

/-- The row that the decoder finds for a header byte is the UPDATE of that byte (R63, R71). -/
theorem exec_of_headerRow {s : State} {b : Byte} {i : Instr} (h : headerRow s.par b = some i) :
    exec i s = updateByte b s := by
  simp only [headerRow] at h
  split_ifs at h with hack hlc hnack hlc hselect hlc hwrite
  · cases h
    have hb : b = s.par.classAck := header_ext (by simpa using hack) (by simpa using hlc)
    rw [hb]; rfl
  · cases h
    have hb : b = s.par.classNack := header_ext (by simpa using hnack) (by simpa using hlc)
    rw [hb]; rfl
  · cases h
    have hb : b = s.par.classSelect := header_ext (by simpa using hselect) (by simpa using hlc)
    rw [hb]; rfl
  · have hb : b = s.par.writeHeader (lengthCode b) := header_ext (by simpa using hwrite) (by simp)
    rcases writeRow_cases h with ⟨hlc, rfl⟩ | ⟨hlc, rfl⟩ | ⟨hlc, rfl⟩ | ⟨hlc, rfl⟩ | ⟨hlc, rfl⟩ |
      ⟨hlc, rfl⟩
    all_goals
      rw [hlc] at hb
      rw [hb]; rfl

/-- Whichever name an UPDATE is decoded to, what runs is the UPDATE of its byte. -/
theorem exec_decodeUpdate (s : State) (b : Byte) :
    exec (decodeUpdate s.par s.st b) s = updateByte b s := by
  cases hst : s.st with
  | wfp => rfl
  | wfh =>
    cases hrow : headerRow s.par b with
    | none => simp only [decodeUpdate, hrow, Option.getD_none]; rfl
    | some i => simpa only [decodeUpdate, hrow, Option.getD_some] using exec_of_headerRow hrow

theorem step_of_hardReset {s : State} (hf : s.fetch = .hardReset) :
    step s = .next s.popInput.hardReset := by
  simp only [step, hf]

theorem step_of_idle {s : State} (hf : s.fetch = .idle) : step s = .next s.popInput.silent := by
  simp only [step, hf]

section Operation

variable {s : State} {q : PortIn}

theorem step_of_update (hf : s.fetch = .operation q) (hop : q.op = 0b00#2) :
    step s = updateByte q.din s.popInput := by
  have hd : decode s.par s.st q = .ok (decodeUpdate s.par s.st q.din) := by simp [decode, hop]
  exact (step_of_decoded hf hd).trans (exec_decodeUpdate s.popInput q.din)

theorem step_of_reset (hf : s.fetch = .operation q) (hop : q.op = 0b01#2) :
    step s = execReset s.popInput :=
  step_of_decoded (i := .reset) hf (by simp [decode, hop])

/-- An offset outside the window is refused by the decoder as PLD_RD itself would refuse it (R45). -/
theorem step_of_pldRd (hf : s.fetch = .operation q) (hop : q.op = 0b10#2) :
    step s = execPldRd q.off s.popInput := by
  cases hoff : offsetLegal q.off with
  | true => exact step_of_decoded (i := .pldRd q.off) hf (by simp [decode, hop, hoff])
  | false => simp [step, hf, decode, hop, hoff, refusalOf, execPldRd, windowIndex]

/-- An offset outside the window is refused by the decoder as PLD_WR itself would refuse it (R45). -/
theorem step_of_pldWr (hf : s.fetch = .operation q) (hop : q.op = 0b11#2) :
    step s = execPldWr q.off q.din s.popInput := by
  cases hoff : offsetLegal q.off with
  | true => exact step_of_decoded (i := .pldWr q.off q.din) hf (by simp [decode, hop, hoff])
  | false => simp [step, hf, decode, hop, hoff, refusalOf, execPldWr, windowIndex]

end Operation

/-- The four operation codes are all there are (R67). -/
theorem op_cases (op : BitVec 2) : op = 0b00#2 ∨ op = 0b01#2 ∨ op = 0b10#2 ∨ op = 0b11#2 := by
  revert op; decide

/-! ## What an UPDATE and a step lead to -/

/-- The next states of UPDATE(b), one constructor per way it can end (R101 to R112). -/
inductive UpdateTo (b : Byte) (s : State) : State → Prop
  /-- An invalid header or a SYS header (R102 to R104). -/
  | headerEnds {o : ParseOutcome} (hst : s.st = .wfh) (ho : o ≠ .insufficientData) :
      UpdateTo b s ((s.writeBuf 0 b).concludeWfh o)
  /-- A valid CMD header (R105). -/
  | headerOpens {len : Count} (hst : s.st = .wfh)
      (hlen : (classify s.par b).payloadLength = some len)
      (hmem : len.toNat ∈ [1, 2, 4, 8, 16, 32]) :
      UpdateTo b s (((s.writeBuf 0 b).openFrame len).conclude .insufficientData)
  /-- A byte of a frame, not the last (R106, R107). -/
  | payloadByte {i : Nat} (hst : s.st = .wfp) (hcur : writeCursor s.plen s.pend = some i)
      (hpend : s.pend ≠ 1#6) :
      UpdateTo b s ((s.accumulate i b).conclude .insufficientData)
  /-- The last byte of a frame (R108 to R112). -/
  | lastByte {i : Nat} {o : ParseOutcome} (hst : s.st = .wfp)
      (hcur : writeCursor s.plen s.pend = some i) (hpend : s.pend = 1#6)
      (ho : o ≠ .insufficientData) :
      UpdateTo b s ((s.accumulate i b).concludeWfh o)

theorem finishFrame_next {s t : State} (h : finishFrame s = .next t) :
    ∃ o, o ≠ ParseOutcome.insufficientData ∧ t = s.concludeWfh o := by
  rcases finishFrame_cases s with ⟨-, e⟩ | ⟨-, -, e⟩ | ⟨-, -, -, e⟩ | ⟨-, -, -, e⟩
  all_goals cases e.symm.trans h
  all_goals exact ⟨_, by decide, rfl⟩

/-- The byte that is not the last of its frame is stored and counted (R106, R107). -/
theorem updatePayload_of_not_last {s : State} {i : Nat} (b : Byte)
    (hcur : writeCursor s.plen s.pend = some i) (hpend : s.pend ≠ 1#6) :
    updatePayload b s = .next ((s.accumulate i b).conclude .insufficientData) := by
  rcases updatePayload_cases b s with ⟨hnone, -⟩ | ⟨j, hj, ⟨-, e⟩ | ⟨hlast, -⟩⟩
  · cases hnone.symm.trans hcur
  · cases hj.symm.trans hcur
    exact e
  · exact absurd hlast hpend

theorem updateTo_of_updateByte {b : Byte} {s t : State} (h : updateByte b s = .next t) :
    UpdateTo b s t := by
  cases hst : s.st with
  | wfh =>
    rw [updateByte_of_wfh b hst] at h
    rcases updateHeader_cases b s with ⟨-, e⟩ | ⟨-, -, e⟩ | ⟨-, -, -, e⟩ | ⟨len, hlen, hmem, e⟩
    all_goals cases e.symm.trans h
    · exact .headerEnds hst (by decide)
    · exact .headerEnds hst (by decide)
    · exact .headerEnds hst (by decide)
    · exact .headerOpens hst hlen hmem
  | wfp =>
    rw [updateByte_of_wfp b hst] at h
    rcases updatePayload_cases b s with ⟨-, e⟩ | ⟨i, hcur, ⟨hpend, e⟩ | ⟨hpend, -, e⟩⟩
    · cases e.symm.trans h
    · cases e.symm.trans h
      exact .payloadByte hst hcur hpend
    · obtain ⟨o, ho, rfl⟩ := finishFrame_next (e.symm.trans h)
      exact .lastByte hst hcur hpend ho

/-- The next states of a step, one constructor per kind of step (R30, R67, R170). -/
inductive StepTo (s : State) : State → Prop
  | hardReset (hf : s.fetch = .hardReset) : StepTo s s.popInput.hardReset
  | idle (hf : s.fetch = .idle) : StepTo s s.popInput.silent
  | update {q : PortIn} {t : State} (hf : s.fetch = .operation q) (hop : q.op = 0b00#2)
      (hupd : UpdateTo q.din s.popInput t) : StepTo s t
  | reset {q : PortIn} (hf : s.fetch = .operation q) (hop : q.op = 0b01#2) :
      StepTo s { s.popInput.silent with
        st := .wfh, plen := Config.freePlen s.draws, pend := Config.freePend s.draws }
  | pldRd {q : PortIn} (hf : s.fetch = .operation q) (hop : q.op = 0b10#2)
      (hoff : q.off.toNat ≤ 32) :
      StepTo s { s.popInput with
        out := readOut (s.readBuf (1 + q.off.toNat)) s.draws, draws := s.draws + 1 }
  | pldWr {q : PortIn} (hf : s.fetch = .operation q) (hop : q.op = 0b11#2)
      (hoff : q.off.toNat ≤ 32) :
      StepTo s (s.popInput.writeBuf (1 + q.off.toNat) q.din).silent

theorem stepTo_of_step {s t : State} (h : step s = .next t) : StepTo s t := by
  cases hf : s.fetch with
  | hardReset =>
    cases (step_of_hardReset hf).symm.trans h
    exact .hardReset hf
  | idle =>
    cases (step_of_idle hf).symm.trans h
    exact .idle hf
  | operation q =>
    rcases op_cases q.op with hop | hop | hop | hop
    · exact .update hf hop (updateTo_of_updateByte ((step_of_update hf hop).symm.trans h))
    · cases (step_of_reset hf hop).symm.trans h
      exact .reset hf hop
    · have h := (step_of_pldRd hf hop).symm.trans h
      rcases execPldRd_cases q.off s.popInput with ⟨-, e⟩ | ⟨hoff, e⟩
      all_goals cases e.symm.trans h
      exact .pldRd hf hop hoff
    · have h := (step_of_pldWr hf hop).symm.trans h
      rcases execPldWr_cases q.off q.din s.popInput with ⟨-, e⟩ | ⟨hoff, e⟩
      all_goals cases e.symm.trans h
      exact .pldWr hf hop hoff

/-! ## The outcome of an UPDATE -/

theorem ParseOutcome.code_ne_seven (o : ParseOutcome) : o.code ≠ 7#3 := by
  cases o <;> decide

/-- INSUFFICIENT_DATA is the outcome of exactly the UPDATEs that end in WFP (R112, R115). -/
theorem UpdateTo.outcome {b : Byte} {s t : State} (h : UpdateTo b s t) :
    ∃ o : ParseOutcome, t.out.outcome = o.code ∧ (o = .insufficientData ↔ t.st = .wfp) := by
  cases h with
  | headerEnds _ ho | lastByte _ _ _ ho => exact ⟨_, rfl, by simp [ho]⟩
  | headerOpens => exact ⟨.insufficientData, rfl, by simp⟩
  | payloadByte hst => exact ⟨.insufficientData, rfl, by simp [hst]⟩

/-! ## The canonical form of the buffer -/

theorem writeCursor_lt_bufCap {plen pend : Count} {i : Nat} (h : writeCursor plen pend = some i) :
    i < Config.bufCap := by
  obtain ⟨-, -, hi, -⟩ := writeCursor_eq_some.mp h
  exact hi

/-- The write cursor never points at the header (R28, R50). -/
theorem writeCursor_pos {plen pend : Count} {i : Nat} (h : writeCursor plen pend = some i) :
    1 ≤ i := by
  obtain ⟨-, hle, -, rfl⟩ := writeCursor_eq_some.mp h
  omega

theorem windowIndex_lt_bufCap {off : Count} (h : off.toNat ≤ 32) :
    1 + off.toNat < Config.bufCap := by
  unfold Config.bufCap; omega

theorem UpdateTo.keepsCanonical {b : Byte} {s t : State} (h : UpdateTo b s t) (hwf : s.buf.wf) :
    t.buf.wf := by
  cases h with
  | headerEnds | headerOpens => exact Memory.wf_write b hwf (by decide)
  | payloadByte hst hcur | lastByte hst hcur =>
    exact Memory.wf_write b hwf (writeCursor_lt_bufCap hcur)

theorem StepTo.keepsCanonical {s t : State} (h : StepTo s t) (hwf : s.buf.wf) : t.buf.wf := by
  cases h with
  | hardReset => exact Memory.wf_nil
  | idle | reset | pldRd => exact hwf
  | update hf hop hupd => exact hupd.keepsCanonical hwf
  | pldWr hf hop hoff => exact Memory.wf_write _ hwf (windowIndex_lt_bufCap hoff)

/-! ## The invariants of a frame in progress -/

/-- A store takes no value away from any index. -/
theorem Memory.isSome_read_write {m : Memory} {a : Nat} (i : Nat) (v : Byte)
    (h : (m.read a).isSome) : ((m.write i v).read a).isSome := by
  rw [Memory.read_write]
  split_ifs
  · rfl
  · exact h

/-- The payload lengths of R63 lie in 1..32. -/
theorem payloadLength_bounds {n : Nat} (h : n ∈ [1, 2, 4, 8, 16, 32]) : 1 ≤ n ∧ n ≤ 32 := by
  revert n; decide

/-- A valid header with a payload is a CMD header: its class is SELECT or WRITE (R83, R84). -/
theorem class_of_payloadLength_pos {p : Params} {b : Byte} {len : Count}
    (h : (classify p b).payloadLength = some len) (hpos : 0 < len.toNat) :
    sanitizedClass b = p.classSelect ∨ sanitizedClass b = p.classWrite := by
  rcases classify_some h with ⟨-, -, rfl⟩ | ⟨hc, -, -⟩ | ⟨hc, -, -⟩
  · exact absurd hpos (by decide)
  · exact .inl hc
  · exact .inr hc

/-- `pend` starts at `plen + 1` without overflow of its 6 bits (R105, R116). -/
theorem toNat_add_one_of_le {len : Count} (h : len.toNat ≤ 32) :
    (len + 1#6).toNat = len.toNat + 1 := by
  bv_omega

/-- A header that opens a frame establishes the invariants (R25, R105). -/
theorem State.frameInv_openFrame {s : State} {b : Byte} {len : Count}
    (hlen : (classify s.par b).payloadLength = some len)
    (hmem : len.toNat ∈ [1, 2, 4, 8, 16, 32]) : ((s.writeBuf 0 b).openFrame len).FrameInv := by
  obtain ⟨hpos, hle⟩ := payloadLength_bounds hmem
  have hpend := toNat_add_one_of_le hle
  refine ⟨hmem, ?_, ?_, ⟨b, by simp, class_of_payloadLength_pos hlen hpos, hlen⟩, fun i hi => ?_⟩
  · simp only [State.openFrame_pend, hpend]; omega
  · simp only [State.openFrame_pend, State.openFrame_plen, hpend]; omega
  · have hi0 : i = 0 := by
      simp only [State.openFrame_pend, State.openFrame_plen, hpend] at hi; omega
    simp [hi0]

/-- A store beside the header keeps the invariants (R25, R50). -/
theorem State.FrameInv.writeBuf {s : State} {i : Nat} (h : s.FrameInv) (hi : 1 ≤ i) (v : Byte) :
    (s.writeBuf i v).FrameInv := by
  obtain ⟨hmem, hpos, hle, ⟨b, hb, hclass, hlen⟩, hwritten⟩ := h
  refine ⟨hmem, hpos, hle, ⟨b, ?_, hclass, hlen⟩,
    fun k hk => Memory.isSome_read_write i v (hwritten k hk)⟩
  exact (s.buf.read_write_other v (Nat.ne_of_lt hi)).trans hb

/-- A byte of the frame that is not the last keeps the invariants: the cursor's index is the one that
has to be written once `pend` is one less (R25, R106). -/
theorem State.FrameInv.accumulate {s : State} {i : Nat} (h : s.FrameInv) (b : Byte)
    (hcur : writeCursor s.plen s.pend = some i) (hpend : s.pend ≠ 1#6) :
    (s.accumulate i b).FrameInv := by
  obtain ⟨-, -, -, hi⟩ := writeCursor_eq_some.mp hcur
  obtain ⟨hmem, hpos, hle, hheader, hwritten⟩ := h.writeBuf (writeCursor_pos hcur) b
  simp only [State.writeBuf_pend, State.writeBuf_plen] at hpos hle hwritten
  have hdec : (s.pend - 1#6).toNat = s.pend.toNat - 1 ∧ 2 ≤ s.pend.toNat := by
    have : s.pend.toNat ≠ 1 := fun e => hpend (BitVec.eq_of_toNat_eq e)
    constructor
    · bv_omega
    · omega
  refine ⟨hmem, ?_, ?_, hheader, fun k hk => ?_⟩
  · simp only [State.accumulate_pend]; omega
  · simp only [State.accumulate_pend, State.accumulate_plen]; omega
  · simp only [State.accumulate_pend, State.accumulate_plen] at hk
    by_cases hki : k = i
    · subst hki; simp
    · exact hwritten k (by omega)

theorem UpdateTo.keepsFrameInv {b : Byte} {s t : State} (h : UpdateTo b s t)
    (hinv : s.st = .wfp → s.FrameInv) (ht : t.st = .wfp) : t.FrameInv := by
  cases h with
  | headerEnds | lastByte => cases ht
  | headerOpens hst hlen hmem => exact State.frameInv_openFrame hlen hmem
  | payloadByte hst hcur hpend => exact (hinv hst).accumulate b hcur hpend

theorem StepTo.keepsFrameInv {s t : State} (h : StepTo s t) (hinv : s.st = .wfp → s.FrameInv)
    (ht : t.st = .wfp) : t.FrameInv := by
  cases h with
  | hardReset | reset => cases ht
  | idle | pldRd => exact hinv ht
  | update hf hop hupd => exact hupd.keepsFrameInv hinv ht
  | pldWr hf hop hoff => exact (hinv ht).writeBuf (Nat.le_add_right 1 _) _

/-! ## No fault from a sound state -/

/-- INV1 and INV2 put the write cursor inside the buffer (R28). -/
theorem State.FrameInv.writeCursor_eq {s : State} (h : s.FrameInv) :
    writeCursor s.plen s.pend = some (s.plen.toNat + 2 - s.pend.toNat) := by
  obtain ⟨hmem, hpos, hle, -⟩ := h
  obtain ⟨-, hplen⟩ := payloadLength_bounds hmem
  exact writeCursor_eq_some.mpr ⟨hpos, hle, by omega, rfl⟩

/-- INV3 rules the third arm of the SELECT/WRITE dispatch out (R117). -/
theorem State.FrameInv.finishFrame_ne_fault {s : State} {i : Nat} (h : s.FrameInv) (b : Byte)
    (hi : 1 ≤ i) (f : Fault) : finishFrame (s.accumulate i b) ≠ .fault f := by
  obtain ⟨-, -, -, ⟨x, hx, hclass, -⟩, -⟩ := h
  have hheader : (s.accumulate i b).readBuf 0 = x := by
    rw [State.readBuf_accumulate, if_neg (Nat.ne_of_lt hi)]
    simp [State.readBuf, hx]
  intro hfault
  rcases finishFrame_cases (s.accumulate i b) with
    ⟨-, e⟩ | ⟨-, -, e⟩ | ⟨-, -, -, e⟩ | ⟨-, hselect, hwrite, -⟩
  · cases e.symm.trans hfault
  · cases e.symm.trans hfault
  · cases e.symm.trans hfault
  · rw [hheader] at hselect hwrite
    exact hclass.elim hselect hwrite

theorem updateByte_ne_fault {s : State} (hinv : s.st = .wfp → s.FrameInv) (b : Byte) (f : Fault) :
    updateByte b s ≠ .fault f := by
  intro hfault
  cases hst : s.st with
  | wfh =>
    rw [updateByte_of_wfh b hst] at hfault
    rcases updateHeader_cases b s with ⟨-, e⟩ | ⟨-, -, e⟩ | ⟨-, -, -, e⟩ | ⟨len, -, -, e⟩
    all_goals cases e.symm.trans hfault
  | wfp =>
    rw [updateByte_of_wfp b hst] at hfault
    rcases updatePayload_cases b s with ⟨hcur, -⟩ | ⟨i, hcur, ⟨-, e⟩ | ⟨-, -, e⟩⟩
    · cases (hinv hst).writeCursor_eq.symm.trans hcur
    · cases e.symm.trans hfault
    · exact (hinv hst).finishFrame_ne_fault b (writeCursor_pos hcur) f (e.symm.trans hfault)

/-! ## The header of a frame in progress -/

theorem UpdateTo.keepsHeader {b : Byte} {s t : State} (h : UpdateTo b s t) (hst : s.st = .wfp)
    (ht : t.st = .wfp) : t.buf.read 0 = s.buf.read 0 ∧ t.plen = s.plen := by
  cases h with
  | headerEnds hwfh | headerOpens hwfh => cases hwfh.symm.trans hst
  | lastByte => cases ht
  | payloadByte _ hcur =>
    exact ⟨s.buf.read_write_other b (Nat.ne_of_lt (writeCursor_pos hcur)), rfl⟩

/-! ## The counters in WFH -/

/-- `s` with other contents of `plen` and `pend`. -/
def State.withCounters (s : State) (c d : Count) : State := { s with plen := c, pend := d }

section WithCounters

variable (s : State) (c d : Count)

theorem State.withCounters_par : (s.withCounters c d).par = s.par := rfl
theorem State.withCounters_fetch : (s.withCounters c d).fetch = s.fetch := rfl

theorem SameButCounters.refl : SameButCounters s s := ⟨rfl, rfl, rfl, rfl, rfl, rfl⟩

theorem sameButCounters_withCounters : SameButCounters s (s.withCounters c d) :=
  ⟨rfl, rfl, rfl, rfl, rfl, rfl⟩

/-- An ending in WFH forgets the counters, unless its outcome reports `plen` (R114). -/
theorem State.concludeWfh_withCounters (b : Byte) {o : ParseOutcome}
    (ho : o.definesLength = false) :
    ((s.withCounters c d).writeBuf 0 b).concludeWfh o = (s.writeBuf 0 b).concludeWfh o := by
  simp [State.concludeWfh, State.conclude, State.withCounters, State.writeBuf, State.readBuf,
    updateOut, ho]

/-- A valid CMD header sets both counters (R105). -/
theorem State.openFrame_withCounters (b : Byte) (len : Count) :
    ((s.withCounters c d).writeBuf 0 b).openFrame len = (s.writeBuf 0 b).openFrame len := rfl

/-- UPDATE in WFH does not look at the counters, and sets them in every case (R102 to R105). -/
theorem updateHeader_withCounters (b : Byte) :
    updateHeader b (s.withCounters c d) = updateHeader b s := by
  have hinvalid := s.concludeWfh_withCounters c d b (o := .receivedInvalidHeader) rfl
  have hack := s.concludeWfh_withCounters c d b (o := .receivedSysAck) rfl
  have hnack := s.concludeWfh_withCounters c d b (o := .receivedSysNack) rfl
  simp only [updateHeader, State.withCounters_par, hinvalid, hack, hnack,
    State.openFrame_withCounters]

end WithCounters

/-- PLD_RD does not look at the counters and leaves them as they are (R123). -/
theorem execPldRd_withCounters {off : Count} {s t : State} (c d : Count)
    (h : execPldRd off s = .next t) :
    t.st = s.st ∧ execPldRd off (s.withCounters c d) = .next (t.withCounters c d) := by
  rcases execPldRd_cases off s with ⟨-, e⟩ | ⟨hoff, e⟩
  all_goals cases e.symm.trans h
  rcases execPldRd_cases off (s.withCounters c d) with ⟨hoff', -⟩ | ⟨-, e'⟩
  · omega
  · exact ⟨rfl, e'⟩

/-- PLD_WR does not look at the counters and leaves them as they are (R124). -/
theorem execPldWr_withCounters {off : Count} {v : Byte} {s t : State} (c d : Count)
    (h : execPldWr off v s = .next t) :
    t.st = s.st ∧ execPldWr off v (s.withCounters c d) = .next (t.withCounters c d) := by
  rcases execPldWr_cases off v s with ⟨-, e⟩ | ⟨hoff, e⟩
  all_goals cases e.symm.trans h
  rcases execPldWr_cases off v (s.withCounters c d) with ⟨hoff', -⟩ | ⟨-, e'⟩
  · omega
  · exact ⟨rfl, e'⟩

/-- In WFH a step either ends with its own counters, whatever they held before, or is idle or a payload
access, which stays in WFH and leaves them as they are. -/
theorem step_withCounters {s t : State} (c d : Count) (hst : s.st = .wfh) (h : step s = .next t) :
    step (s.withCounters c d) = .next t ∨
    (t.st = .wfh ∧ step (s.withCounters c d) = .next (t.withCounters c d)) := by
  have hfetch := s.withCounters_fetch c d
  cases hf : s.fetch with
  | hardReset =>
    cases (step_of_hardReset hf).symm.trans h
    exact .inl (step_of_hardReset (hfetch.trans hf))
  | idle =>
    cases (step_of_idle hf).symm.trans h
    exact .inr ⟨hst, step_of_idle (hfetch.trans hf)⟩
  | operation q =>
    have hf' := hfetch.trans hf
    rcases op_cases q.op with hop | hop | hop | hop
    · rw [step_of_update hf hop, updateByte_of_wfh q.din (s := s.popInput) hst] at h
      rw [step_of_update hf' hop, updateByte_of_wfh q.din (s := (s.withCounters c d).popInput) hst]
      exact .inl ((updateHeader_withCounters s.popInput c d q.din).trans h)
    · exact .inl ((step_of_reset hf' hop).trans ((step_of_reset hf hop).symm.trans h))
    · obtain ⟨ht, hrd⟩ := execPldRd_withCounters c d ((step_of_pldRd hf hop).symm.trans h)
      exact .inr ⟨ht.trans hst, (step_of_pldRd hf' hop).trans hrd⟩
    · obtain ⟨ht, hwr⟩ := execPldWr_withCounters c d ((step_of_pldWr hf hop).symm.trans h)
      exact .inr ⟨ht.trans hst, (step_of_pldWr hf' hop).trans hwr⟩

/-! ## The obligations -/

/-- Settles O31: R6 is a fact of the parameters, the canonical form is O32, and each kind of step keeps
the invariants of a frame in progress. -/
theorem stepKeepsInvariant : Obligations.StepKeepsInvariant := by
  rintro s t ⟨hdistinct, hwf, hframe⟩ h
  have hstep := stepTo_of_step h
  obtain ⟨hpar, -⟩ := parametersNeverChange s t h
  exact ⟨hpar ▸ hdistinct, hstep.keepsCanonical hwf, hstep.keepsFrameInv hframe⟩

/-- Settles O16: the bounds on the counters give a write cursor, and it is past the header. -/
theorem payloadByteStored : Obligations.PayloadByteStored := by
  intro s b hst hpend hle hplen
  have hcur : writeCursor s.plen s.pend = some (s.plen.toNat + 2 - s.pend.toNat) :=
    writeCursor_eq_some.mpr ⟨by omega, hle, by omega, rfl⟩
  have hexec : exec (.update b) s = .next ((s.accumulate _ b).conclude .insufficientData) :=
    (updateByte_of_wfp b hst).trans (updatePayload_of_not_last b hcur (by bv_omega))
  have hpos := writeCursor_pos hcur
  refine ⟨_, _, hexec, ⟨rfl, ?_⟩, hst, rfl, ?_, hcur, rfl, hpos, by omega, by simp,
    fun a ha => s.buf.read_write_other b ha, rfl, rfl⟩
  · simp [State.readBuf_accumulate, Nat.ne_of_lt hpos]
  · simp only [State.conclude_pend, State.accumulate_pend]; bv_omega

/-- Settles O21: each way an UPDATE ends fixes both the outcome and `st`. -/
theorem insufficientDataMeansWfp : Obligations.InsufficientDataMeansWfp := by
  intro s t b h
  obtain ⟨o, hout, ho⟩ := (updateTo_of_updateByte h).outcome
  rw [hout, ← ho]
  exact ⟨⟨ParseOutcome.code_injective, congrArg _⟩, o.code_ne_seven⟩

/-- Settles O32: every index a step stores at is inside the buffer. -/
theorem stepKeepsCanonicalBuffer : Obligations.StepKeepsCanonicalBuffer :=
  fun _ _ hwf h => (stepTo_of_step h).keepsCanonical hwf

/-- Settles O33: of the four operations only UPDATE can fault at all. -/
theorem soundStateNeverFaults : Obligations.SoundStateNeverFaults := by
  rintro s f ⟨-, -, hframe⟩ hfault
  cases hf : s.fetch with
  | hardReset => cases (step_of_hardReset hf).symm.trans hfault
  | idle => cases (step_of_idle hf).symm.trans hfault
  | operation q =>
    rcases op_cases q.op with hop | hop | hop | hop
    · exact updateByte_ne_fault (s := s.popInput) hframe q.din f
        ((step_of_update hf hop).symm.trans hfault)
    · cases (step_of_reset hf hop).symm.trans hfault
    · have hfault := (step_of_pldRd hf hop).symm.trans hfault
      rcases execPldRd_cases q.off s.popInput with ⟨-, e⟩ | ⟨-, e⟩
      all_goals cases e.symm.trans hfault
    · have hfault := (step_of_pldWr hf hop).symm.trans hfault
      rcases execPldWr_cases q.off q.din s.popInput with ⟨-, e⟩ | ⟨-, e⟩
      all_goals cases e.symm.trans hfault

/-- Settles O37: neither the write cursor nor the window reaches index 0. -/
theorem headerFixedWhileAccumulating : Obligations.HeaderFixedWhileAccumulating := by
  intro s t hst h ht
  cases stepTo_of_step h with
  | hardReset | reset => cases ht
  | idle | pldRd => exact ⟨rfl, rfl⟩
  | update _ _ hupd => exact hupd.keepsHeader hst ht
  | pldWr => exact ⟨s.buf.read_write_other _ (by omega), rfl⟩

/-- Settles O38: of all next states only that of an opened frame is in WFP after WFH. -/
theorem onlyCmdHeaderLeavesWfh : Obligations.OnlyCmdHeaderLeavesWfh := by
  intro s t hst h ht
  cases stepTo_of_step h with
  | hardReset | reset => cases ht
  | idle | pldRd | pldWr => cases hst.symm.trans ht
  | update hf hop hupd =>
    cases hupd with
    | headerEnds | lastByte => cases ht
    | payloadByte hwfp => cases hst.symm.trans hwfp
    | headerOpens _ hlen hmem =>
      obtain ⟨hpos, hle⟩ := payloadLength_bounds hmem
      exact ⟨_, _, hf, hop, hlen, hpos, rfl, toNat_add_one_of_le hle⟩

/-- Settles O39: of all next states from WFP only these three are in WFH. -/
theorem waysOutOfWfp : Obligations.WaysOutOfWfp := by
  intro s t hst h ht
  cases stepTo_of_step h with
  | hardReset hf => exact .inl hf
  | reset hf hop => exact .inr ⟨_, hf, .inl hop⟩
  | idle | pldRd | pldWr => cases hst.symm.trans ht
  | update hf hop hupd =>
    cases hupd with
    | headerEnds hwfh | headerOpens hwfh => cases hst.symm.trans hwfh
    | payloadByte => cases hst.symm.trans ht
    | lastByte _ _ hpend => exact .inr ⟨_, hf, .inr ⟨hop, hpend⟩⟩

/-- Settles O40: the step ends in the same state, or in WFH with the other counters still there. -/
theorem countersIrrelevantInWfh : Obligations.CountersIrrelevantInWfh := by
  intro s t c d hst h
  rcases step_withCounters c d hst h with hu | ⟨ht, hu⟩
  · exact ⟨t, hu, SameButCounters.refl t, fun _ => rfl⟩
  · exact ⟨_, hu, sameButCounters_withCounters t c d, fun hwfp => nomatch ht.symm.trans hwfp⟩

/-- Settles O28: `rst` is looked at before `op_valid` and `op`. -/
theorem hardResetOverridesOperation : Obligations.HardResetOverridesOperation := by
  refine ⟨fun s q rest hin hrst => ?_, rfl, Memory.read_nil⟩
  have hf : s.fetch = .hardReset :=
    (State.fetch_of_inputs hin).trans (by simp only [presented, hrst, if_true])
  exact ⟨_, step_of_hardReset hf, rfl, Memory.read_nil, rfl, by simp [hin]⟩

/-- Settles O29. -/
theorem idleStepKeepsBlock : Obligations.IdleStepKeepsBlock :=
  fun _ hf => ⟨_, step_of_idle hf, rfl, rfl, rfl, fun _ => rfl, rfl, rfl⟩

/-- Settles O30: right after reset the block is in WFH, where nothing is required of the counters. -/
theorem resetStateMeetsInvariant : Obligations.ResetStateMeetsInvariant := by
  have hdistinct : Config.defaultParams.Distinct := by decide
  exact ⟨hdistinct, Memory.wf_nil, fun hwfp => nomatch hwfp⟩

end Sys2Proof.Machine

/-! SUPPORT. The frame buffer as it is reached from outside (20_memory.md): the payload window R44 to R47,
the byte an instruction may write R43, the validity window R54, and the bytes under the checksum R51. -/

namespace Sys2Proof.Machine

/-! ## Reads of the buffer -/

/-- A byte that has been written is read as it stands, never as a free value (R46, R47). -/
theorem State.readBuf_of_read {s : State} {i : Nat} {v : Byte} (h : s.buf.read i = some v) :
    s.readBuf i = v := by
  simp only [State.readBuf, h, Option.getD_some]

theorem State.getElem?_bufUpTo (s : State) {n k : Nat} (hk : k < n + 1) :
    (s.bufUpTo n)[k]? = some (s.readBuf k) := by
  simp [State.bufUpTo, hk]

/-- The one index at which a store can change what is read is its own. -/
theorem Memory.eq_of_read_write_ne {m : Memory} {a i : Nat} {v : Byte}
    (h : (m.write i v).read a ≠ m.read a) : a = i :=
  by_contra fun hne => h (m.read_write_other v hne)

/-! ## The payload window -/

section Window

variable {off : Count}

theorem execPldRd_of_legal (s : State) (h : off.toNat ≤ 32) :
    execPldRd off s =
      .next { s with out := readOut (s.readBuf (1 + off.toNat)) s.draws, draws := s.draws + 1 } := by
  rcases execPldRd_cases off s with ⟨hout, -⟩ | ⟨-, e⟩
  · omega
  · exact e

theorem execPldRd_of_outside (s : State) (h : 32 < off.toNat) :
    execPldRd off s = .refused (.offsetOutsideWindow off) := by
  rcases execPldRd_cases off s with ⟨-, e⟩ | ⟨hin, -⟩
  · exact e
  · omega

theorem execPldWr_of_legal (s : State) (v : Byte) (h : off.toNat ≤ 32) :
    execPldWr off v s = .next (s.writeBuf (1 + off.toNat) v).silent := by
  rcases execPldWr_cases off v s with ⟨hout, -⟩ | ⟨-, e⟩
  · omega
  · exact e

theorem execPldWr_of_outside (s : State) (v : Byte) (h : 32 < off.toNat) :
    execPldWr off v s = .refused (.offsetOutsideWindow off) := by
  rcases execPldWr_cases off v s with ⟨-, e⟩ | ⟨hin, -⟩
  · exact e
  · omega

/-- Two offsets of the window never share a byte (R44). -/
theorem windowIndex_ne_of_ne {off' : Count} (h : off' ≠ off) : 1 + off'.toNat ≠ 1 + off.toNat :=
  fun e => h (BitVec.eq_of_toNat_eq (Nat.add_left_cancel e))

end Window

/-! ## The byte an instruction may write -/

theorem bufTarget_update_of_wfh {s : State} (b : Byte) (hst : s.st = .wfh) :
    bufTarget (.update b) s = some 0 := by
  simp only [bufTarget, hst]

theorem bufTarget_update_of_wfp {s : State} (b : Byte) (hst : s.st = .wfp) :
    bufTarget (.update b) s = writeCursor s.plen s.pend := by
  simp only [bufTarget, hst]

/-- A byte that an UPDATE changes is the header in WFH and the one at the write cursor in WFP (R43). -/
theorem UpdateTo.bufTarget_of_changed {b : Byte} {s t : State} {a : Nat} (h : UpdateTo b s t)
    (ha : t.buf.read a ≠ s.buf.read a) : bufTarget (.update b) s = some a := by
  cases h with
  | headerEnds hst | headerOpens hst =>
    rw [bufTarget_update_of_wfh b hst, Memory.eq_of_read_write_ne ha]
  | payloadByte hst hcur | lastByte hst hcur =>
    rw [bufTarget_update_of_wfp b hst, hcur, Memory.eq_of_read_write_ne ha]

/-- A byte that an instruction changes is the one at its target (R43). -/
theorem exec_bufTarget_of_changed {i : Instr} {s t : State} {a : Nat} (h : exec i s = .next t)
    (ha : t.buf.read a ≠ s.buf.read a) : bufTarget i s = some a := by
  cases i with
  | sysNack | sysAck | cmdSelect | cmdWrite1 | cmdWrite2 | cmdWrite4 | cmdWrite8 | cmdWrite16
  | cmdWrite32 | update b => exact (updateTo_of_updateByte h).bufTarget_of_changed ha
  | reset =>
    cases h
    exact absurd rfl ha
  | pldRd off =>
    rcases execPldRd_cases off s with ⟨-, e⟩ | ⟨-, e⟩
    all_goals cases e.symm.trans h
    exact absurd rfl ha
  | pldWr off v =>
    rcases execPldWr_cases off v s with ⟨-, e⟩ | ⟨hoff, e⟩
    all_goals cases e.symm.trans h
    exact windowIndex_eq_some.mpr ⟨hoff, Memory.eq_of_read_write_ne ha⟩

/-! ## The validity window -/

/-- An UPDATE opens the window exactly when its outcome is terminal, that is, when it ends in WFH
(R54, R112). -/
theorem UpdateTo.wfh_of_windowAfter {q : PortIn} {s t : State} {isOpen : Bool}
    (h : UpdateTo q.din s t) (hop : q.op = 0b00#2)
    (hw : windowAfter isOpen (.operation q) t.out = true) : t.st = .wfh := by
  obtain ⟨o, hout, ho⟩ := h.outcome
  have hterminal : t.out.outcome ≠ ParseOutcome.insufficientData.code := by
    simpa [windowAfter, hop] using hw
  cases ht : t.st with
  | wfh => rfl
  | wfp => exact absurd (hout.trans (congrArg _ (ho.mpr ht))) hterminal

/-- PLD_RD and PLD_WR leave the window as it is (R54). -/
theorem windowAfter_of_access {q : PortIn} (isOpen : Bool) (o : PortOut)
    (hop : q.op = 0b10#2 ∨ q.op = 0b11#2) : windowAfter isOpen (.operation q) o = isOpen := by
  rcases hop with hop | hop
  all_goals simp [windowAfter, hop]

/-- A host that keeps to the window accesses the payload only while it is open (R173, R174). -/
theorem isOpen_of_accessAllowed {q : PortIn} {isOpen : Bool}
    (h : accessAllowed isOpen (.operation q) = true) (hop : q.op = 0b10#2 ∨ q.op = 0b11#2) :
    isOpen = true := by
  have hboth : isOpen = true ∧ offsetLegal q.off = true := by
    rcases hop with hop | hop
    all_goals simpa [accessAllowed, hop] using h
  exact hboth.1

/-- The window is open after a step only in WFH, if that was so before it (R54). -/
theorem StepTo.wfh_of_windowAfter {s t : State} {isOpen : Bool} (h : StepTo s t)
    (hopen : isOpen = true → s.st = .wfh) (hw : windowAfter isOpen s.fetch t.out = true) :
    t.st = .wfh := by
  cases h with
  | hardReset | reset => rfl
  | idle hf =>
    rw [hf] at hw
    exact hopen hw
  | update hf hop hupd =>
    rw [hf] at hw
    exact hupd.wfh_of_windowAfter hop hw
  | pldRd hf hop =>
    rw [hf, windowAfter_of_access _ _ (.inl hop)] at hw
    exact hopen hw
  | pldWr hf hop =>
    rw [hf, windowAfter_of_access _ _ (.inr hop)] at hw
    exact hopen hw

/-! ## The obligations -/

/-- Settles O5: the decoder refuses such an offset just as the two instructions do. -/
theorem offsetOutsideWindowRefused : Obligations.OffsetOutsideWindowRefused := by
  intro s off v hoff
  refine ⟨execPldRd_of_outside s hoff, execPldWr_of_outside s v hoff, ?_⟩
  rintro q hf (hop | hop) rfl
  · exact (step_of_pldRd hf hop).trans (execPldRd_of_outside _ hoff)
  · exact (step_of_pldWr hf hop).trans (execPldWr_of_outside _ _ hoff)

/-- Settles O24. -/
theorem payloadReadShowsBuffer : Obligations.PayloadReadShowsBuffer :=
  fun s _ hoff => ⟨_, execPldRd_of_legal s hoff, fun _ hv => State.readBuf_of_read hv, rfl, rfl, rfl,
    fun _ => rfl, rfl, rfl⟩

/-- Settles O25. -/
theorem payloadWriteStoresByte : Obligations.PayloadWriteStoresByte :=
  fun s _ v hoff => ⟨_, _, execPldWr_of_legal s v hoff, windowIndex_eq_some.mpr ⟨hoff, rfl⟩, rfl,
    s.buf.read_write_same _ v, fun _ ha => s.buf.read_write_other v ha, rfl, rfl, rfl, rfl, rfl⟩

/-- Settles O26: the read is that of O24, in the state after the store. -/
theorem windowReadAfterWrite : Obligations.WindowReadAfterWrite := by
  intro s off off' v hoff hoff'
  obtain ⟨u, hu, hdout, -⟩ :=
    payloadReadShowsBuffer (s.writeBuf (1 + off.toNat) v).silent off' hoff'
  refine ⟨_, u, _, execPldWr_of_legal s v hoff, hu, execPldWr_of_legal _ v hoff,
    s.buf.write_write _ v v, ?_, fun hne x hx => hdout x ?_⟩
  · rintro rfl
    exact hdout v (s.buf.read_write_same _ v)
  · exact (s.buf.read_write_other v (windowIndex_ne_of_ne hne)).trans hx

/-- Settles O20: with `pend` 1 the bytes that INV4 says are written are all those up to `plen`. -/
theorem checksumInputIsWholeAndWritten : Obligations.ChecksumInputIsWholeAndWritten := by
  rintro s ⟨hmem, -, -, -, hwritten⟩ hpend
  obtain ⟨hpos, hle⟩ := payloadLength_bounds hmem
  refine ⟨s.bufUpTo_length _, by omega, by unfold Config.maxCksInput; omega, fun k hk => ?_⟩
  have hsome : (s.buf.read k).isSome := hwritten k (by simpa [hpend] using hk)
  obtain ⟨v, hv⟩ := Option.isSome_iff_exists.mp hsome
  exact ⟨by rw [s.getElem?_bufUpTo hk, State.readBuf_of_read hv, hv], hsome⟩

/-- Settles O36: what is not the target cannot have changed. -/
theorem accessMatrixHolds : Obligations.AccessMatrixHolds :=
  fun _ _ _ h _ ha => by_contra fun hne => ha (exec_bufTarget_of_changed h hne)

/-- Settles O41. -/
theorem openWindowMeansWfh : Obligations.OpenWindowMeansWfh := by
  intro s t isOpen hopen h
  refine ⟨(stepTo_of_step h).wfh_of_windowAfter hopen, fun q hallowed hf hop => ?_⟩
  rw [hf] at hallowed
  exact hopen (isOpen_of_accessAllowed hallowed hop)

/-- Settles O42: inside a frame the window is closed, so the one step of such a host that writes is an
UPDATE. -/
theorem disciplinedHostKeepsReceivedBytes : Obligations.DisciplinedHostKeepsReceivedBytes := by
  intro s t isOpen hopen hallowed hst h ht a ha
  cases stepTo_of_step h with
  | hardReset | reset => cases ht
  | idle | pldRd => exact absurd rfl ha
  | update hf hop hupd =>
    have htarget := hupd.bufTarget_of_changed ha
    rwa [bufTarget_update_of_wfp (s := s.popInput) _ hst] at htarget
  | pldWr hf hop =>
    rw [hf] at hallowed
    cases hst.symm.trans (hopen (isOpen_of_accessAllowed hallowed (.inr hop)))

end Sys2Proof.Machine

/-! SUPPORT. The header catalogue as pairs of a row and its byte (30_encoding.md R63 to R65), the decoder by
`op` code (R67, R71), and the statements on the encoding that follow. -/

namespace Sys2Proof

/-! ## The decoder and the analyzer on the catalogue's own bytes -/

theorem headerRow_classAck (p : Params) : headerRow p p.classAck = some .sysAck := by
  simp [headerRow]

theorem payloadLength_classAck (p : Params) :
    (classify p p.classAck).payloadLength = some 0#6 := by
  simp [classify]

section Distinct

variable {p : Params}

theorem headerRow_classNack (hp : p.Distinct) : headerRow p p.classNack = some .sysNack := by
  obtain ⟨hack, -⟩ := hp.ne
  simp [headerRow, hack.symm]

theorem payloadLength_classNack (hp : p.Distinct) :
    (classify p p.classNack).payloadLength = some 0#6 := by
  obtain ⟨hack, -⟩ := hp.ne
  simp [classify, hack.symm]

theorem headerRow_classSelect (hp : p.Distinct) : headerRow p p.classSelect = some .cmdSelect := by
  obtain ⟨-, hack, -, hnack, -⟩ := hp.ne
  simp [headerRow, hack.symm, hnack.symm]

theorem payloadLength_classSelect (hp : p.Distinct) :
    (classify p p.classSelect).payloadLength = some 1#6 := by
  obtain ⟨-, hack, -, hnack, -⟩ := hp.ne
  simp [classify, hack.symm, hnack.symm]

theorem headerRow_writeHeader (hp : p.Distinct) (lc : BitVec 3) :
    headerRow p (p.writeHeader lc) = writeRow lc := by
  obtain ⟨-, -, hack, -, hnack, hselect⟩ := hp.ne
  simp [headerRow, hack.symm, hnack.symm, hselect.symm]

theorem payloadLength_writeHeader (hp : p.Distinct) {lc : BitVec 3} (hlc : lc.toNat ≤ 5) :
    (classify p (p.writeHeader lc)).payloadLength = some (lengthOfCode lc) := by
  obtain ⟨-, -, hack, -, hnack, hselect⟩ := hp.ne
  simp [classify, hack.symm, hnack.symm, hselect.symm, Config.lcMaxWrite, hlc]

end Distinct

/-! ## The catalogue -/

/-- The rows of the catalogue, each with its header byte, in the order of `catalogueBytes`. -/
def catalogueRows (p : Params) : List (Instr × Byte) :=
  [(.sysNack, p.classNack), (.sysAck, p.classAck), (.cmdSelect, p.classSelect),
    (.cmdWrite1, p.writeHeader 0#3), (.cmdWrite2, p.writeHeader 1#3),
    (.cmdWrite4, p.writeHeader 2#3), (.cmdWrite8, p.writeHeader 3#3),
    (.cmdWrite16, p.writeHeader 4#3), (.cmdWrite32, p.writeHeader 5#3)]

theorem catalogueRows_map_snd (p : Params) :
    (catalogueRows p).map Prod.snd = catalogueBytes p := rfl

theorem mem_catalogueRows {p : Params} {i : Instr} {b : Byte} :
    (i, b) ∈ catalogueRows p ↔
      i = .sysNack ∧ b = p.classNack ∨ i = .sysAck ∧ b = p.classAck ∨
      i = .cmdSelect ∧ b = p.classSelect ∨ i = .cmdWrite1 ∧ b = p.writeHeader 0#3 ∨
      i = .cmdWrite2 ∧ b = p.writeHeader 1#3 ∨ i = .cmdWrite4 ∧ b = p.writeHeader 2#3 ∨
      i = .cmdWrite8 ∧ b = p.writeHeader 3#3 ∨ i = .cmdWrite16 ∧ b = p.writeHeader 4#3 ∨
      i = .cmdWrite32 ∧ b = p.writeHeader 5#3 := by
  simp only [catalogueRows, List.mem_cons, List.not_mem_nil, or_false, Prod.mk.injEq]

/-- A row that the decoder finds for a byte is the row of exactly that byte: class and length code
together are the whole byte (R61, R63). -/
theorem mem_catalogueRows_of_headerRow {p : Params} {b : Byte} {i : Instr}
    (h : headerRow p b = some i) : (i, b) ∈ catalogueRows p := by
  rw [mem_catalogueRows]
  simp only [headerRow] at h
  split_ifs at h with hack hlc hnack hlc hselect hlc hwrite
  · have hb : b = p.classAck := header_ext (by simpa using hack) (by simpa using hlc)
    cases h; simp [hb]
  · have hb : b = p.classNack := header_ext (by simpa using hnack) (by simpa using hlc)
    cases h; simp [hb]
  · have hb : b = p.classSelect := header_ext (by simpa using hselect) (by simpa using hlc)
    cases h; simp [hb]
  · have hb : b = p.writeHeader (lengthCode b) := header_ext (by simpa using hwrite) (by simp)
    rcases writeRow_cases h with ⟨hlc, rfl⟩ | ⟨hlc, rfl⟩ | ⟨hlc, rfl⟩ | ⟨hlc, rfl⟩ | ⟨hlc, rfl⟩ |
      ⟨hlc, rfl⟩
    all_goals
      rw [hlc] at hb
      simp [hb]

/-- R6 lets the decoder tell the nine bytes apart. -/
theorem headerRow_of_mem_catalogueRows {p : Params} {b : Byte} {i : Instr} (hp : p.Distinct)
    (h : (i, b) ∈ catalogueRows p) : headerRow p b = some i := by
  rcases mem_catalogueRows.mp h with ⟨rfl, rfl⟩ | ⟨rfl, rfl⟩ | ⟨rfl, rfl⟩ | ⟨rfl, rfl⟩ | ⟨rfl, rfl⟩ |
    ⟨rfl, rfl⟩ | ⟨rfl, rfl⟩ | ⟨rfl, rfl⟩ | ⟨rfl, rfl⟩
  · exact headerRow_classNack hp
  · exact headerRow_classAck p
  · exact headerRow_classSelect hp
  all_goals exact headerRow_writeHeader hp _

/-- A row of the catalogue is encoded as the UPDATE of its byte (R63), and occurs in WFH (R71). -/
theorem encode_of_mem_catalogueRows {p : Params} {b : Byte} {i : Instr}
    (h : (i, b) ∈ catalogueRows p) :
    encode p i = presentUpdate b ∧ WellFormed p .wfh i = true := by
  rcases mem_catalogueRows.mp h with ⟨rfl, rfl⟩ | ⟨rfl, rfl⟩ | ⟨rfl, rfl⟩ | ⟨rfl, rfl⟩ | ⟨rfl, rfl⟩ |
    ⟨rfl, rfl⟩ | ⟨rfl, rfl⟩ | ⟨rfl, rfl⟩ | ⟨rfl, rfl⟩
  all_goals exact ⟨rfl, rfl⟩

theorem writeRow_isSome (lc : BitVec 3) : (writeRow lc).isSome = decide (lc.toNat ≤ 5) := by
  revert lc; decide

/-! ## The decoder, by the `op` code -/

section Decode

variable {p : Params} {st : ParserState} {q : PortIn}

theorem decode_of_update (hop : q.op = 0b00#2) :
    decode p st q = .ok (decodeUpdate p st q.din) := by
  simp [decode, hop]

theorem decode_of_reset (hop : q.op = 0b01#2) : decode p st q = .ok .reset := by
  simp [decode, hop]

theorem decode_of_pldRd (hop : q.op = 0b10#2) :
    decode p st q =
      if offsetLegal q.off then .ok (.pldRd q.off) else .error (.offsetOutsideWindow q.off) := by
  simp [decode, hop]

theorem decode_of_pldWr (hop : q.op = 0b11#2) :
    decode p st q =
      if offsetLegal q.off then .ok (.pldWr q.off q.din)
      else .error (.offsetOutsideWindow q.off) := by
  simp [decode, hop]

theorem decodeUpdate_of_headerRow_some {b : Byte} {i : Instr} (h : headerRow p b = some i) :
    decodeUpdate p .wfh b = i := by
  simp [decodeUpdate, h]

theorem decodeUpdate_of_headerRow_none {b : Byte} (h : headerRow p b = none) :
    decodeUpdate p st b = .update b := by
  cases st <;> simp [decodeUpdate, h]

/-- The decoder and the analyzer branch on the same two fields of the byte. -/
theorem headerRow_isSome (p : Params) (b : Byte) :
    (headerRow p b).isSome = (classify p b).valid := by
  simp only [headerRow, classify, HeaderClass.valid]
  split_ifs with hack hlc hnack hlc hselect hlc hwrite hle
  all_goals simp_all [writeRow_isSome, Config.lcMaxWrite]

theorem headerRow_eq_none_iff {b : Byte} :
    headerRow p b = none ↔ (classify p b).valid = false := by
  rw [← headerRow_isSome, Option.isSome_eq_false_iff, Option.isNone_iff_eq_none]

/-- Whichever name an UPDATE is decoded to, it is well formed and encoded as the UPDATE of its byte. -/
theorem decodeUpdate_sound (p : Params) (st : ParserState) (b : Byte) :
    WellFormed p st (decodeUpdate p st b) = true ∧
      encode p (decodeUpdate p st b) = presentUpdate b := by
  cases st with
  | wfp => exact ⟨rfl, rfl⟩
  | wfh =>
    cases hrow : headerRow p b with
    | none =>
      rw [decodeUpdate_of_headerRow_none hrow]
      exact ⟨by simp [WellFormed, headerRow_eq_none_iff.mp hrow], rfl⟩
    | some i =>
      rw [decodeUpdate_of_headerRow_some hrow]
      exact (encode_of_mem_catalogueRows (mem_catalogueRows_of_headerRow hrow)).symm

/-- A row of the catalogue survives encoding and decoding in WFH. -/
theorem decode_encode_of_mem_catalogueRows {i : Instr} (hp : p.Distinct)
    (h : ∃ b, (i, b) ∈ catalogueRows p) : decode p .wfh (encode p i) = .ok i := by
  obtain ⟨b, h⟩ := h
  rw [(encode_of_mem_catalogueRows h).1, decode_of_update rfl]
  exact congrArg _ (decodeUpdate_of_headerRow_some (headerRow_of_mem_catalogueRows hp h))

/-- An UPDATE whose byte is no header where it stands survives encoding and decoding. -/
theorem decode_presentUpdate {b : Byte} (h : WellFormed p st (.update b) = true) :
    decode p st (presentUpdate b) = .ok (.update b) := by
  rw [decode_of_update rfl]
  cases st with
  | wfp => rfl
  | wfh =>
    have hinvalid : (classify p b).valid = false := by simpa [WellFormed] using h
    exact congrArg _ (decodeUpdate_of_headerRow_none (headerRow_eq_none_iff.mpr hinvalid))

end Decode

/-! ## The obligations -/

/-- Settles O1: the rows live in WFH and are told apart by R6; an UPDATE is well formed exactly where its
byte is not a header; a window offset that is legal is not rejected. -/
theorem decodeEncodeRoundTrip : Obligations.DecodeEncodeRoundTrip := by
  intro p st i hp hwf
  cases i with
  | sysNack | sysAck | cmdSelect | cmdWrite1 | cmdWrite2 | cmdWrite4 | cmdWrite8 | cmdWrite16
  | cmdWrite32 =>
    obtain rfl : st = .wfh := of_decide_eq_true hwf
    exact decode_encode_of_mem_catalogueRows hp (by simp [mem_catalogueRows])
  | update b => exact decode_presentUpdate hwf
  | reset => exact decode_of_reset rfl
  | pldRd off => exact (decode_of_pldRd rfl).trans (if_pos hwf)
  | pldWr off v => exact (decode_of_pldWr rfl).trans (if_pos hwf)

/-- Settles O2: one case per `op` code. -/
theorem decodedIsWellFormedAndSame : Obligations.DecodedIsWellFormedAndSame := by
  intro p st q i h
  rcases Machine.op_cases q.op with hop | hop | hop | hop
  · cases (decode_of_update hop).symm.trans h
    obtain ⟨hwf, henc⟩ := decodeUpdate_sound p st q.din
    exact ⟨hwf, by simp [henc, presentUpdate, hop]⟩
  · cases (decode_of_reset hop).symm.trans h
    exact ⟨rfl, by simp [encode, hop]⟩
  · rw [decode_of_pldRd hop] at h
    split_ifs at h with hoff
    cases h
    exact ⟨hoff, by simp [encode, hop]⟩
  · rw [decode_of_pldWr hop] at h
    split_ifs at h with hoff
    cases h
    exact ⟨hoff, by simp [encode, hop]⟩

/-- Settles O7: the decoder answers nine different rows on the nine bytes, so they are distinct, and it
answers a row on exactly the valid bytes. -/
theorem catalogueIsExactlyNineHeaders : Obligations.CatalogueIsExactlyNineHeaders := by
  intro p hp
  refine ⟨fun b => ?_, ?_, rfl, ?_⟩
  · rw [← headerRow_isSome, Option.isSome_iff_exists, ← catalogueRows_map_snd]
    constructor
    · rintro ⟨i, hrow⟩
      exact List.mem_map_of_mem (mem_catalogueRows_of_headerRow hrow)
    · intro hb
      obtain ⟨⟨i, _⟩, hmem, rfl⟩ := List.mem_map.mp hb
      exact ⟨i, headerRow_of_mem_catalogueRows hp hmem⟩
  · have hrows : (catalogueBytes p).map (headerRow p) =
        [Instr.sysNack, .sysAck, .cmdSelect, .cmdWrite1, .cmdWrite2, .cmdWrite4, .cmdWrite8,
          .cmdWrite16, .cmdWrite32].map some := by
      simp only [catalogueBytes, List.map_cons, List.map_nil, headerRow_classNack hp,
        headerRow_classAck, headerRow_classSelect hp, headerRow_writeHeader hp]
      rfl
    exact List.Nodup.of_map (headerRow p) (hrows ▸ by decide)
  · simp (disch := decide) only [catalogueBytes, List.map_cons, List.map_nil,
      payloadLength_classNack hp, payloadLength_classAck, payloadLength_classSelect hp,
      payloadLength_writeHeader hp]
    rfl

/-- Settles O3: fixed words, computed. -/
theorem tableWordsDecodeToTheirRows : Obligations.TableWordsDecodeToTheirRows :=
  ⟨rfl, rfl, rfl, rfl, rfl, rfl, rfl, rfl, rfl, rfl, rfl, rfl, rfl⟩

/-- Settles O4: what the decoder answers for an `op` code is written out in the ports it uses. -/
theorem unusedPortsHaveNoEffect : Obligations.UnusedPortsHaveNoEffect :=
  fun _ _ q d o =>
    ⟨fun hop => (decode_of_update (q := { q with off := o }) hop).trans (decode_of_update hop).symm,
      fun hop =>
        (decode_of_reset (q := { q with din := d, off := o }) hop).trans (decode_of_reset hop).symm,
      fun hop => (decode_of_pldRd (q := { q with din := d }) hop).trans (decode_of_pldRd hop).symm⟩

/-- Settles O8. -/
theorem decoderAgreesWithAnalyzer : Obligations.DecoderAgreesWithAnalyzer :=
  headerRow_isSome

end Sys2Proof

/-! SUPPORT. The header rows as instructions (30_encoding.md R63, log entry 14), and a whole CMD frame fed
byte by byte (R66, R118): where its bytes stand in the buffer, and how its last byte is reported. -/

namespace Sys2Proof.Machine

/-! ## A CMD header in WFH -/

/-- A valid header with a payload opens its frame (R105). -/
theorem updateHeader_of_cmd {s : State} {b : Byte} {len : Count}
    (hlen : (classify s.par b).payloadLength = some len) (hpos : 0 < len.toNat) :
    updateHeader b s = .next (((s.writeBuf 0 b).openFrame len).conclude .insufficientData) := by
  have hne : some len ≠ some 0#6 := by
    rintro ⟨⟩
    exact absurd hpos (by decide)
  rcases updateHeader_cases b s with ⟨h, -⟩ | ⟨h, -⟩ | ⟨h, -⟩ | ⟨l, h, -, e⟩
  · cases hlen.symm.trans h
  · exact absurd (hlen.symm.trans h) hne
  · exact absurd (hlen.symm.trans h) hne
  · cases hlen.symm.trans h
    exact e

/-- The CMD rows of the catalogue with their header bytes and payload lengths (R63). -/
def cmdRows (p : Params) : List (Instr × Byte × Count) :=
  [(.cmdSelect, p.classSelect, 1#6), (.cmdWrite1, p.writeHeader 0#3, 1#6),
    (.cmdWrite2, p.writeHeader 1#3, 2#6), (.cmdWrite4, p.writeHeader 2#3, 4#6),
    (.cmdWrite8, p.writeHeader 3#3, 8#6), (.cmdWrite16, p.writeHeader 4#3, 16#6),
    (.cmdWrite32, p.writeHeader 5#3, 32#6)]

/-- The decoder and the analyzer give each CMD row its byte and its length, which is never 0. -/
theorem headerRow_of_mem_cmdRows {p : Params} {i : Instr} {b : Byte} {len : Count}
    (hp : p.Distinct) (h : (i, b, len) ∈ cmdRows p) :
    headerRow p b = some i ∧ (classify p b).payloadLength = some len ∧ 0 < len.toNat := by
  simp only [cmdRows, List.mem_cons, List.not_mem_nil, or_false, Prod.mk.injEq] at h
  rcases h with ⟨rfl, rfl, rfl⟩ | ⟨rfl, rfl, rfl⟩ | ⟨rfl, rfl, rfl⟩ | ⟨rfl, rfl, rfl⟩ |
    ⟨rfl, rfl, rfl⟩ | ⟨rfl, rfl, rfl⟩ | ⟨rfl, rfl, rfl⟩
  · exact ⟨headerRow_classSelect hp, payloadLength_classSelect hp, by decide⟩
  all_goals
    exact ⟨headerRow_writeHeader hp _, payloadLength_writeHeader hp (by decide), by decide⟩

/-! ## A byte sequence at the front of the buffer -/

/-- The bytes `l` stand in the buffer from index 0 on. -/
def Memory.Holds (m : Memory) (l : List Byte) : Prop := ∀ i < l.length, m.read i = l[i]?

theorem Memory.holds_write_zero (m : Memory) (b : Byte) : (m.write 0 b).Holds [b] := by
  intro i hi
  obtain rfl : i = 0 := by simpa using hi
  simp

/-- A store at the first free index appends. -/
theorem Memory.Holds.write {m : Memory} {l : List Byte} (h : m.Holds l) (b : Byte) :
    (m.write l.length b).Holds (l ++ [b]) := by
  intro i hi
  rw [Memory.read_write]
  split_ifs with hil
  · simp [hil]
  · have hlt : i < l.length := by simp at hi; omega
    rw [h i hlt, List.getElem?_append_left hlt]

/-- `buf[0..n]` is the front of the bytes that the buffer holds. -/
theorem State.bufUpTo_of_holds {s : State} {l tail : List Byte} {n : Nat}
    (h : s.buf.Holds (l ++ tail)) (hl : l.length = n + 1) : s.bufUpTo n = l := by
  refine List.ext_getElem (by simp [hl]) fun k _ hk => Option.some.inj ?_
  have hread : s.buf.read k = some l[k] := by
    rw [h k (by simp; omega), List.getElem?_append_left hk, List.getElem?_eq_getElem hk]
  rw [← List.getElem?_eq_getElem, s.getElem?_bufUpTo (by omega), State.readBuf_of_read hread]

/-- The host's window shows the bytes behind the header (R44, R126). -/
theorem State.payloadView_of_holds {s : State} {h : Byte} {l tail : List Byte}
    (hbuf : s.buf.Holds (h :: l ++ tail)) : s.payloadView l.length = l.map some := by
  refine List.ext_getElem (by simp [State.payloadView]) fun k _ hk => ?_
  have hk : k < l.length := by simpa using hk
  have hread := hbuf (1 + k) (by simp; omega)
  simpa [State.payloadView, Nat.add_comm 1 k, hk, List.getElem?_append_left hk] using hread

/-! ## The bytes of a CMD frame, one step each -/

/-- A step that is presented with UPDATE(b) takes that input and runs the UPDATE. -/
theorem step_of_presentUpdate {s : State} {b : Byte} {rest : List PortIn}
    (h : s.inputs = presentUpdate b :: rest) : step s = updateByte b s.popInput :=
  step_of_update (q := presentUpdate b) (State.fetch_of_inputs h) rfl

/-- The last byte of a frame is stored, then the frame is finished (R108). -/
theorem updatePayload_of_last {s : State} {i : Nat} (b : Byte)
    (hcur : writeCursor s.plen s.pend = some i) (hpend : s.pend = 1#6) :
    updatePayload b s = finishFrame (s.accumulate i b) := by
  rcases updatePayload_cases b s with ⟨hnone, -⟩ | ⟨j, hj, ⟨hne, -⟩ | ⟨-, -, e⟩⟩
  · cases hnone.symm.trans hcur
  · exact absurd hpend hne
  · cases hj.symm.trans hcur
    exact e

/-- With a CMD header at index 0, what is reported of a frame depends on how far its last byte is off the
checksum (R108 to R112, R140). -/
theorem finishFrame_of_checksum {s : State} {d : Byte}
    (hck : s.readBuf (s.plen.toNat + 1) = s.computedChecksum + d)
    (hclass : sanitizedClass (s.readBuf 0) = s.par.classSelect ∨
      sanitizedClass (s.readBuf 0) = s.par.classWrite) :
    finishFrame s = .next (s.concludeWfh (cmdOutcome s.par (s.readBuf 0) d)) := by
  have hmatch : s.computedChecksum = s.readBuf (s.plen.toNat + 1) ↔ d = 0#8 := by
    rw [hck]
    constructor
    all_goals
      intro e
      bv_omega
  rcases finishFrame_cases s with ⟨hne, e⟩ | ⟨heq, hsel, e⟩ | ⟨heq, hsel, -, e⟩ |
    ⟨-, hsel, hwr, -⟩
  · simp [e, cmdOutcome, mt hmatch.mpr hne]
  · simp [e, cmdOutcome, hmatch.mp heq, hsel]
  · simp [e, cmdOutcome, hmatch.mp heq, hsel]
  · exact absurd hclass (not_or.mpr ⟨hsel, hwr⟩)

theorem cmdOutcome_definesLength (p : Params) (h d : Byte) :
    (cmdOutcome p h d).definesLength = true := by
  unfold cmdOutcome
  split_ifs <;> rfl

/-- The state right after the CMD header `h` of payload length `len` and the payload bytes `done` of its
frame: the registers, the buffer, the report of the last of these bytes, and what the host will
present. -/
structure FrameFed (p : Params) (h : Byte) (len : Count) (done : List Byte) (rest : List PortIn)
    (s : State) : Prop where
  st : s.st = .wfp
  plen : s.plen = len
  pend : s.pend.toNat + done.length = len.toNat + 1
  holds : s.buf.Holds (h :: done)
  par : s.par = p
  inputs : s.inputs = rest
  reports : Reports s .insufficientData h

/-- The header byte of a frame (R105). -/
theorem step_opens_frame {s : State} {h : Byte} {len : Count} {rest : List PortIn}
    (hst : s.st = .wfh) (hlen : (classify s.par h).payloadLength = some len)
    (hpos : 0 < len.toNat) (hle : len.toNat ≤ 32) (hin : s.inputs = presentUpdate h :: rest) :
    ∃ t, step s = .next t ∧ FrameFed s.par h len [] rest t := by
  have hupdate := (updateByte_of_wfh (s := s.popInput) h hst).trans (updateHeader_of_cmd hlen hpos)
  refine ⟨_, (step_of_presentUpdate hin).trans hupdate, rfl, rfl, toNat_add_one_of_le hle,
    s.buf.holds_write_zero h, rfl, ?_, rfl, ?_⟩
  · simp [hin]
  · simp [State.readBuf_writeBuf]

section Fed

variable {p : Params} {h : Byte} {len : Count} {done : List Byte} {rest : List PortIn} {s : State}

theorem FrameFed.readBuf_zero (hfed : FrameFed p h len done rest s) : s.readBuf 0 = h :=
  State.readBuf_of_read (hfed.holds 0 (by simp))

theorem FrameFed.popInput {q : PortIn} (hfed : FrameFed p h len done (q :: rest) s) :
    FrameFed p h len done rest s.popInput :=
  { hfed with inputs := by simp [hfed.inputs] }

/-- The cursor points right behind the bytes of the frame that are there (R28). -/
theorem FrameFed.writeCursor_eq (hfed : FrameFed p h len done rest s) (hle : len.toNat ≤ 32)
    (hdone : done.length ≤ len.toNat) :
    writeCursor s.plen s.pend = some (h :: done).length := by
  have hpend := hfed.pend
  rw [writeCursor_eq_some, hfed.plen, List.length_cons]
  omega

/-- A payload byte (R106, R107). -/
theorem FrameFed.updateByte_payload (hfed : FrameFed p h len done rest s) (b : Byte)
    (hle : len.toNat ≤ 32) (hdone : done.length < len.toNat) :
    ∃ t, updateByte b s = .next t ∧ FrameFed p h len (done ++ [b]) rest t := by
  have hpend := hfed.pend
  have hnotlast : s.pend ≠ 1#6 := by bv_omega
  have hcur := hfed.writeCursor_eq hle hdone.le
  refine ⟨_, (updateByte_of_wfp b hfed.st).trans (updatePayload_of_not_last b hcur hnotlast),
    hfed.st, hfed.plen, ?_, hfed.holds.write b, hfed.par, hfed.inputs, rfl, ?_⟩
  · simp only [State.conclude_pend, State.accumulate_pend, List.length_append,
      List.length_singleton]
    bv_omega
  · simpa [State.readBuf_accumulate] using hfed.readBuf_zero

/-- The checksum byte, off by `d` (R108 to R112, R140). -/
theorem FrameFed.updateByte_checksum {d c : Byte} (hfed : FrameFed p h len done rest s)
    (hc : c = p.checksum.eval (h :: done) + d) (hle : len.toNat ≤ 32)
    (hdone : done.length = len.toNat)
    (hclass : sanitizedClass h = p.classSelect ∨ sanitizedClass h = p.classWrite) :
    updateByte c s =
      .next ((s.accumulate (h :: done).length c).concludeWfh (cmdOutcome p h d)) := by
  have hpend := hfed.pend
  have hlast : s.pend = 1#6 := by bv_omega
  obtain rfl := hfed.par
  have hheader : (s.accumulate (h :: done).length c).readBuf 0 = h := by
    simpa [State.readBuf_accumulate] using hfed.readBuf_zero
  have hinput : s.plen.toNat + 1 = (h :: done).length := by simp [hfed.plen, hdone]
  have hcomputed : (s.accumulate (h :: done).length c).computedChecksum =
      s.par.checksum.eval (h :: done) :=
    congrArg _ (State.bufUpTo_of_holds (hfed.holds.write c) hinput.symm)
  have hck : (s.accumulate (h :: done).length c).readBuf (s.plen.toNat + 1) =
      (s.accumulate (h :: done).length c).computedChecksum + d := by
    rw [State.readBuf_accumulate, if_pos hinput, hcomputed, hc]
  rw [updateByte_of_wfp c hfed.st, updatePayload_of_last c (hfed.writeCursor_eq hle hdone.le) hlast,
    finishFrame_of_checksum hck (by rwa [hheader]), hheader]
  rfl

/-- Payload bytes, as many as the host feeds. -/
theorem FrameFed.run_payload {todo : List Byte} (hfed : FrameFed p h len done (feed todo ++ rest) s)
    (hle : len.toNat ≤ 32) (htodo : done.length + todo.length ≤ len.toNat) :
    ∃ t, runSteps todo.length s = .next t ∧ FrameFed p h len (done ++ todo) rest t := by
  induction todo generalizing done s with
  | nil => exact ⟨s, rfl, by simpa [feed] using hfed⟩
  | cons b todo ih =>
    rw [List.length_cons] at htodo
    obtain ⟨u, hupdate, hfedu⟩ := hfed.popInput.updateByte_payload b hle (by omega)
    obtain ⟨t, hrun, hfedt⟩ := ih hfedu (by simp; omega)
    have hstep := (step_of_presentUpdate hfed.inputs).trans hupdate
    exact ⟨t, (runSteps_succ hstep).trans hrun, by simpa using hfedt⟩

end Fed

/-- What a sound CMD item says of its header: a CMD class, and the length of the payload as a count
that fits its 6 bits (R63). -/
theorem cmdItem_sound {p : Params} {h d : Byte} {payload : List Byte}
    (hs : (StreamItem.cmd h payload d).sound p) :
    ∃ len : Count, (classify p h).payloadLength = some len ∧ len.toNat = payload.length ∧
      0 < len.toNat ∧ len.toNat ≤ 32 ∧
      (sanitizedClass h = p.classSelect ∨ sanitizedClass h = p.classWrite) := by
  obtain ⟨hne, hlen, hle⟩ := hs
  have hle : payload.length ≤ 32 := hle
  have hpos := List.length_pos_iff.mpr hne
  have htoNat : (BitVec.ofNat 6 payload.length).toNat = payload.length :=
    Nat.mod_eq_of_lt (by omega)
  have hpos' : 0 < (BitVec.ofNat 6 payload.length).toNat := by omega
  exact ⟨_, hlen, htoNat, hpos', by omega, class_of_payloadLength_pos hlen hpos'⟩

/-! ## The obligations -/

/-- Settles O14: the decoder's row of a CMD byte is its UPDATE, and that is a valid header with a payload. -/
theorem cmdRowsOpenTheirFrames : Obligations.CmdRowsOpenTheirFrames := by
  intro s i b len hp hst hmem
  obtain ⟨hrow, hlen, hpos⟩ := headerRow_of_mem_cmdRows hp hmem
  have hexec := (exec_of_headerRow hrow).trans
    ((updateByte_of_wfh b hst).trans (updateHeader_of_cmd hlen hpos))
  exact ⟨_, hexec, ⟨rfl, by simp [State.readBuf_writeBuf]⟩, rfl, rfl, rfl, by simp,
    fun _ ha => s.buf.read_write_other b ha, rfl, rfl⟩

/-- Settles O44: the header opens the frame, the payload bytes fill it, and the last byte finishes it with
the whole frame in the buffer. -/
theorem cmdFrameReported : Obligations.CmdFrameReported := by
  intro s h d payload rest hst _ hsound hin
  obtain ⟨len, hlen, hpayload, hpos, hle, hclass⟩ := cmdItem_sound hsound
  obtain ⟨u, hopen, hfed⟩ := step_opens_frame
    (rest := feed payload ++ presentUpdate (s.par.checksum.eval (h :: payload) + d) :: rest)
    hst hlen hpos hle (by simpa [feed, cmdFrame] using hin)
  obtain ⟨v, hrun, hfed⟩ := hfed.run_payload hle (by simp [hpayload])
  rw [List.nil_append] at hfed
  have hlast := (step_of_presentUpdate hfed.inputs).trans
    (hfed.popInput.updateByte_checksum rfl hle hpayload.symm hclass)
  have hall : runSteps (payload.length + 2) s = _ :=
    (runSteps_succ hopen).trans ((runSteps_end hrun).trans hlast)
  have hholds := hfed.holds.write (s.par.checksum.eval (h :: payload) + d)
  refine ⟨_, hall, ⟨rfl, ?_⟩, ?_, rfl, ?_, hfed.par, State.payloadView_of_holds hholds, ?_⟩
  · simpa [State.readBuf_accumulate] using hfed.popInput.readBuf_zero
  · simp [cmdOutcome_definesLength, hfed.plen, hpayload]
  · simp [hfed.inputs]
  · simp

/-- Settles O15: both sides are the UPDATE of the byte by definition. -/
theorem headerRowsAreUpdates : Obligations.HeaderRowsAreUpdates :=
  fun _ => ⟨rfl, rfl, rfl, rfl, rfl, rfl, rfl, rfl, rfl⟩

end Sys2Proof.Machine

/-! SUPPORT. The header analyzer by class (40_header_analyzer.md R81 to R85), and the faults that an
instruction can end in (R88, R117). -/

namespace Sys2Proof

/-! ## The analyzer's record, one equation per class -/

theorem sanitizedClass_idem (b : Byte) : sanitizedClass (sanitizedClass b) = sanitizedClass b := by
  simp only [sanitizedClass, BitVec.and_assoc, BitVec.and_self]

/-- In a class whose only length code is 0, the byte without length bits alone is valid (R81 to
R83). -/
theorem valid_of_lengthCode_zero {b c : Byte} (l : Count) (hclass : sanitizedClass b = c)
    (hlc : lengthCode c = 0#3) :
    HeaderClass.valid ⟨c, if lengthCode b = 0#3 then some l else none⟩ = true ↔ b = c := by
  have hzero : lengthCode b = 0#3 ↔ b = c := by
    constructor
    · intro h
      exact header_ext (by rw [← hclass, sanitizedClass_idem]) (h.trans hlc.symm)
    · rintro rfl
      exact hlc
  rw [← hzero]
  by_cases h : lengthCode b = 0#3 <;> simp [HeaderClass.valid, h]

section Classes

variable {p : Params} {b : Byte}

theorem classify_of_classAck (hclass : sanitizedClass b = p.classAck) :
    classify p b = ⟨p.classAck, if lengthCode b = 0#3 then some 0#6 else none⟩ := by
  simp only [classify, hclass, if_true]

theorem classify_of_classNack (hp : p.Distinct) (hclass : sanitizedClass b = p.classNack) :
    classify p b = ⟨p.classNack, if lengthCode b = 0#3 then some 0#6 else none⟩ := by
  obtain ⟨hack, -⟩ := hp.ne
  simp only [classify, hclass, hack.symm, if_true, if_false]

theorem classify_of_classSelect (hp : p.Distinct) (hclass : sanitizedClass b = p.classSelect) :
    classify p b = ⟨p.classSelect, if lengthCode b = 0#3 then some 1#6 else none⟩ := by
  obtain ⟨-, hack, -, hnack, -⟩ := hp.ne
  simp only [classify, hclass, hack.symm, hnack.symm, if_true, if_false]

theorem classify_of_classWrite (hp : p.Distinct) (hclass : sanitizedClass b = p.classWrite) :
    classify p b =
      ⟨p.classWrite,
        if (lengthCode b).toNat ≤ 5 then some (lengthOfCode (lengthCode b)) else none⟩ := by
  obtain ⟨-, -, hack, -, hnack, hselect⟩ := hp.ne
  simp only [classify, hclass, hack.symm, hnack.symm, hselect.symm, if_true, if_false]
  rfl

theorem classify_of_no_class
    (hclass : sanitizedClass b ∉ [p.classAck, p.classNack, p.classSelect, p.classWrite]) :
    classify p b = ⟨sanitizedClass b, none⟩ := by
  simp only [List.mem_cons, List.not_mem_nil, or_false, not_or] at hclass
  obtain ⟨hack, hnack, hselect, hwrite⟩ := hclass
  simp only [classify, hack, hnack, hselect, hwrite, if_false]

/-- A WRITE header is valid by its length code alone (R84). -/
theorem valid_of_classWrite (hp : p.Distinct) (hclass : sanitizedClass b = p.classWrite) :
    (classify p b).valid = true ↔ (lengthCode b).toNat ≤ 5 := by
  rw [classify_of_classWrite hp hclass]
  by_cases h : (lengthCode b).toNat ≤ 5 <;> simp [HeaderClass.valid, h]

/-- The payload length of a valid WRITE header (R84, R87). -/
theorem payloadLength_of_classWrite {l : Count} (hp : p.Distinct)
    (hclass : sanitizedClass b = p.classWrite) (hl : (classify p b).payloadLength = some l) :
    l.toNat = 2 ^ (lengthCode b).toNat := by
  rw [classify_of_classWrite hp hclass] at hl
  obtain ⟨hle, ⟨⟩⟩ := Option.ite_none_right_eq_some.mp hl
  exact lengthOfCode_toNat hle

end Classes

/-! ## The obligations -/

/-- Settles O6: the equation of each class, and which of its length codes give a length; the
examples are computed. -/
theorem classifyByClass : Obligations.ClassifyByClass := by
  refine ⟨fun p b hp => ⟨fun hack => ?_, fun hnack => ?_, fun hselect => ?_, fun hwrite => ?_,
    classify_of_no_class⟩, by decide⟩
  · rw [classify_of_classAck hack]
    exact ⟨rfl, valid_of_lengthCode_zero _ hack (lengthCode_classAck p)⟩
  · rw [classify_of_classNack hp hnack]
    exact ⟨rfl, valid_of_lengthCode_zero _ hnack (lengthCode_classNack p)⟩
  · rw [classify_of_classSelect hp hselect]
    exact ⟨rfl, valid_of_lengthCode_zero _ hselect (lengthCode_classSelect p)⟩
  · exact ⟨(classify_class p b).trans hwrite, valid_of_classWrite hp hwrite,
      fun _ => payloadLength_of_classWrite hp hwrite⟩

end Sys2Proof

namespace Sys2Proof.Machine

/-! ## The faults of an instruction -/

/-- UPDATE in WFH faults in no state: a valid length 0 occurs in the classes ACK and NACK only
(R88). -/
theorem updateHeader_ne_fault (b : Byte) (s : State) (f : Fault) : updateHeader b s ≠ .fault f := by
  intro hfault
  rcases updateHeader_cases b s with ⟨-, e⟩ | ⟨-, -, e⟩ | ⟨-, -, -, e⟩ | ⟨_, -, -, e⟩
  all_goals cases e.symm.trans hfault

theorem finishFrame_fault {s : State} {f : Fault} (h : finishFrame s = .fault f) :
    f = .unrecognizedCmdSubtype := by
  rcases finishFrame_cases s with ⟨-, e⟩ | ⟨-, -, e⟩ | ⟨-, -, -, e⟩ | ⟨-, -, -, e⟩
  all_goals cases e.symm.trans h
  rfl

theorem updatePayload_fault {b : Byte} {s : State} {f : Fault} (h : updatePayload b s = .fault f) :
    f = .cursorOutsideBuffer ∨ f = .unrecognizedCmdSubtype := by
  rcases updatePayload_cases b s with ⟨-, e⟩ | ⟨_, -, ⟨-, e⟩ | ⟨-, -, e⟩⟩
  · cases e.symm.trans h
    exact .inl rfl
  · cases e.symm.trans h
  · exact .inr (finishFrame_fault (e.symm.trans h))

/-- An UPDATE that faults is one in WFP, so its fault is one of that state's two (R117). -/
theorem updateByte_fault {b : Byte} {s : State} {f : Fault} (h : updateByte b s = .fault f) :
    s.st = .wfp ∧ (f = .cursorOutsideBuffer ∨ f = .unrecognizedCmdSubtype) := by
  cases hst : s.st with
  | wfh => exact absurd ((updateByte_of_wfh b hst).symm.trans h) (updateHeader_ne_fault b s f)
  | wfp => exact ⟨rfl, updatePayload_fault ((updateByte_of_wfp b hst).symm.trans h)⟩

/-- An instruction faults only as an UPDATE in WFP; RESET, PLD_RD and PLD_WR have no fault
(R150). -/
theorem exec_fault {i : Instr} {s : State} {f : Fault} (h : exec i s = .fault f) :
    s.st = .wfp ∧ (f = .cursorOutsideBuffer ∨ f = .unrecognizedCmdSubtype) := by
  rcases exec_cases i s with ⟨b, e⟩ | e | ⟨off, e⟩ | ⟨off, v, e⟩
  · exact updateByte_fault (e.symm.trans h)
  · cases e.symm.trans h
  · rcases execPldRd_cases off s with ⟨-, e'⟩ | ⟨-, e'⟩
    all_goals cases e'.symm.trans (e.symm.trans h)
  · rcases execPldWr_cases off v s with ⟨-, e'⟩ | ⟨-, e'⟩
    all_goals cases e'.symm.trans (e.symm.trans h)

/-! ## The obligations -/

/-- Settles O9: the fault of this arm is not one of the two that an instruction can end in. -/
theorem sysDispatchArmUnreachable : Obligations.SysDispatchArmUnreachable := by
  intro i s hfault
  obtain ⟨-, hf | hf⟩ := exec_fault hfault
  all_goals cases hf

end Sys2Proof.Machine

/-! SUPPORT. The UPDATE that ends in WFH, by its byte: a header that is a whole message (R102 to R104) and
the last byte of a frame (R108 to R112); and a stream of such messages (R118, R119). -/

namespace Sys2Proof.Machine

/-! ## A header byte that is a whole message -/

/-- A header byte that ends in WFH is stored at index 0 and reported as it was received (R113); nothing
else of the block is touched. -/
theorem header_reported {s t : State} {b : Byte} {o : ParseOutcome}
    (ht : t = (s.writeBuf 0 b).concludeWfh o) :
    Reports t o b ∧ t.st = .wfh ∧ t.buf.read 0 = some b ∧ KeepsBufBut 0 s t ∧ KeepsHost s t := by
  subst ht
  exact ⟨⟨rfl, by simp [State.readBuf_writeBuf]⟩, rfl, by simp,
    fun _ ha => s.buf.read_write_other b ha, rfl, rfl⟩

section Header

variable {s : State}

theorem updateByte_of_invalid {b : Byte} (hst : s.st = .wfh)
    (hinvalid : (classify s.par b).valid = false) :
    updateByte b s = .next ((s.writeBuf 0 b).concludeWfh .receivedInvalidHeader) := by
  have hnone : (classify s.par b).payloadLength = none := by
    simpa [HeaderClass.valid] using hinvalid
  simp [updateByte_of_wfh b hst, updateHeader, hnone]

theorem updateByte_classAck (hst : s.st = .wfh) :
    updateByte s.par.classAck s =
      .next ((s.writeBuf 0 s.par.classAck).concludeWfh .receivedSysAck) := by
  simp [updateByte_of_wfh _ hst, updateHeader, payloadLength_classAck]

/-- NACK is told apart from ACK by R6. -/
theorem updateByte_classNack (hp : s.par.Distinct) (hst : s.st = .wfh) :
    updateByte s.par.classNack s =
      .next ((s.writeBuf 0 s.par.classNack).concludeWfh .receivedSysNack) := by
  obtain ⟨hack, -⟩ := hp.ne
  simp [updateByte_of_wfh _ hst, updateHeader, payloadLength_classNack hp, hack.symm]

end Header

/-! ## The last byte of a frame -/

section LastByte

variable {s : State} {b : Byte}

/-- The last byte goes right behind the payload (R28, R108). -/
theorem writeCursor_of_last (hpend : s.pend = 1#6) (hplen : s.plen.toNat ≤ 32) :
    writeCursor s.plen s.pend = some (s.plen.toNat + 1) := by
  have hone : s.pend.toNat = 1 := congrArg BitVec.toNat hpend
  exact writeCursor_eq_some.mpr (by omega)

/-- The checksum byte is no part of the checksum's own input (R136). -/
theorem computedChecksum_accumulate_last (s : State) (b : Byte) :
    (s.accumulate (s.plen.toNat + 1) b).computedChecksum =
      s.par.checksum.eval (s.bufUpTo s.plen.toNat) := by
  refine congrArg s.par.checksum.eval (List.map_congr_left fun k hk => ?_)
  have hk : k < s.plen.toNat + 1 := List.mem_range.mp hk
  rw [State.readBuf_accumulate, if_neg hk.ne]

/-- Whatever the outcome of the finished frame, it comes with the header, the payload length and the
checksum byte of that frame (R112 to R114). -/
theorem lastByte_reported {o : ParseOutcome} (hst : s.st = .wfp) (hpend : s.pend = 1#6)
    (hplen : s.plen.toNat ≤ 32) (ho : o.definesLength = true)
    (hfinish : finishFrame (s.accumulate (s.plen.toNat + 1) b) =
      .next ((s.accumulate (s.plen.toNat + 1) b).concludeWfh o)) :
    ∃ t i, exec (.update b) s = .next t ∧ Reports t o (s.readBuf 0) ∧
      t.out.payloadLength = s.plen ∧ t.st = .wfh ∧ writeCursor s.plen s.pend = some i ∧
      i = s.plen.toNat + 1 ∧ t.buf.read i = some b ∧ KeepsBufBut i s t ∧ KeepsHost s t := by
  have hcur := writeCursor_of_last hpend hplen
  have hexec : exec (.update b) s = .next _ :=
    (updateByte_of_wfp b hst).trans ((updatePayload_of_last b hcur hpend).trans hfinish)
  exact ⟨_, _, hexec, ⟨rfl, by simp [State.readBuf_accumulate]⟩, by simp [ho], rfl, hcur, rfl,
    by simp, fun _ ha => s.buf.read_write_other b ha, rfl, rfl⟩

theorem finishFrame_of_mismatch (hne : s.computedChecksum ≠ s.readBuf (s.plen.toNat + 1)) :
    finishFrame s = .next (s.concludeWfh .receivedCmdInvalidFcs) := by
  rcases finishFrame_cases s with ⟨-, e⟩ | ⟨heq, -⟩ | ⟨heq, -⟩ | ⟨heq, -⟩
  · exact e
  all_goals exact absurd heq hne

/-- With the right checksum byte the outcome is that of the stored header's class (R110, R111). -/
theorem finishFrame_of_match (hb : s.par.checksum.eval (s.bufUpTo s.plen.toNat) = b)
    (hclass : sanitizedClass (s.readBuf 0) = s.par.classSelect ∨
      sanitizedClass (s.readBuf 0) = s.par.classWrite) :
    finishFrame (s.accumulate (s.plen.toNat + 1) b) =
      .next ((s.accumulate (s.plen.toNat + 1) b).concludeWfh
        (cmdOutcome s.par (s.readBuf 0) 0#8)) := by
  have hheader : (s.accumulate (s.plen.toNat + 1) b).readBuf 0 = s.readBuf 0 := by
    simp [State.readBuf_accumulate]
  rw [finishFrame_of_checksum (d := 0#8) ?_ (by rwa [hheader]), hheader]
  · rfl
  · rw [computedChecksum_accumulate_last, hb]
    simp [State.readBuf_accumulate]

theorem cmdOutcome_of_select {p : Params} {h : Byte} (hclass : sanitizedClass h = p.classSelect) :
    cmdOutcome p h 0#8 = .receivedCmdSelect := by
  simp [cmdOutcome, hclass]

theorem cmdOutcome_of_write {p : Params} {h : Byte} (hp : p.Distinct)
    (hclass : sanitizedClass h = p.classWrite) : cmdOutcome p h 0#8 = .receivedCmdWrite := by
  obtain ⟨-, -, -, -, -, hne⟩ := hp.ne
  simp [cmdOutcome, hclass, hne.symm]

/-- INV3 gives a stored SELECT header the only length of its class (R25, R83). -/
theorem State.FrameInv.plen_of_select (hinv : s.FrameInv) (hp : s.par.Distinct)
    (hclass : sanitizedClass (s.readBuf 0) = s.par.classSelect) : s.plen = 1#6 := by
  obtain ⟨-, -, -, ⟨h, hread, -, hlen⟩, -⟩ := hinv
  rw [State.readBuf_of_read hread] at hclass
  rw [classify_of_classSelect hp hclass] at hlen
  obtain ⟨-, hone⟩ := Option.ite_none_right_eq_some.mp hlen
  exact (Option.some.inj hone).symm

end LastByte

/-! ## A stream of messages -/

/-- The block waits for a header while the host still presents `rest`: the state between two messages
of a stream (R118). -/
structure AwaitsHeader (p : Params) (rest : List PortIn) (s : State) : Prop where
  st : s.st = .wfh
  par : s.par = p
  inputs : s.inputs = rest

section Stream

variable {p : Params} {rest : List PortIn} {s : State}

theorem AwaitsHeader.popInput {q : PortIn} (hs : AwaitsHeader p (q :: rest) s) :
    AwaitsHeader p rest s.popInput :=
  { hs with inputs := by simp [hs.inputs] }

/-- A header byte that is a whole message takes one step. -/
theorem AwaitsHeader.run_header {b : Byte} {o : ParseOutcome}
    (hs : AwaitsHeader p (presentUpdate b :: rest) s)
    (hupdate : updateByte b s.popInput = .next ((s.popInput.writeBuf 0 b).concludeWfh o)) :
    ∃ t, runSteps 1 s = .next t ∧ t.out.outcome = o.code ∧ AwaitsHeader p rest t :=
  ⟨_, (runSteps_one s).trans ((step_of_presentUpdate hs.inputs).trans hupdate), rfl, rfl,
    hs.par, hs.popInput.inputs⟩

/-- One item takes a step a byte, and ends where the next one can begin (R112, R119). -/
theorem AwaitsHeader.run_item {x : StreamItem} (hp : p.Distinct) (hx : x.sound p)
    (hs : AwaitsHeader p (feed (x.bytes p) ++ rest) s) :
    ∃ t, runSteps (x.bytes p).length s = .next t ∧ t.out.outcome = (x.outcome p).code ∧
      AwaitsHeader p rest t := by
  obtain rfl := hs.par
  cases x with
  | ack => exact hs.run_header (updateByte_classAck hs.st)
  | nack => exact hs.run_header (updateByte_classNack hp hs.st)
  | filler b => exact hs.run_header (updateByte_of_invalid hs.st hx)
  | cmd h payload d =>
    obtain ⟨t, hrun, ⟨hout, -⟩, -, hst, hin, hpar, -⟩ :=
      cmdFrameReported s h d payload rest hs.st hp hx hs.inputs
    have hlength : ((StreamItem.cmd h payload d).bytes s.par).length = payload.length + 2 := by
      simp [StreamItem.bytes, cmdFrame]
    exact ⟨t, hlength ▸ hrun, hout, hst, hpar, hin⟩

theorem AwaitsHeader.run_items {items : List StreamItem} (hp : p.Distinct)
    (hitems : ∀ y ∈ items, y.sound p)
    (hs : AwaitsHeader p (feed (items.flatMap (StreamItem.bytes p)) ++ rest) s) :
    ∃ t, runSteps (items.flatMap (StreamItem.bytes p)).length s = .next t ∧
      AwaitsHeader p rest t := by
  induction items generalizing s with
  | nil => exact ⟨s, rfl, hs⟩
  | cons y items ih =>
    obtain ⟨hy, hitems⟩ := List.forall_mem_cons.mp hitems
    obtain ⟨u, hrunu, -, hu⟩ :=
      AwaitsHeader.run_item (rest := feed (items.flatMap (StreamItem.bytes p)) ++ rest) hp hy
        (by simpa [feed] using hs)
    obtain ⟨t, hrunt, ht⟩ := ih hitems hu
    refine ⟨t, ?_, ht⟩
    rw [List.flatMap_cons, List.length_append, runSteps_add hrunu, hrunt]

end Stream

/-! ## The obligations -/

/-- Settles O10. -/
theorem invalidHeaderReported : Obligations.InvalidHeaderReported := fun _ _ hst hinvalid =>
  ⟨_, updateByte_of_invalid hst hinvalid, header_reported rfl⟩

/-- Settles O11: the row runs the UPDATE of its byte (O15). -/
theorem sysAckReported : Obligations.SysAckReported := fun _ _ hst =>
  ⟨_, updateByte_classAck hst, updateByte_classAck hst, header_reported rfl⟩

/-- Settles O12: the row runs the UPDATE of its byte (O15). -/
theorem sysNackReported : Obligations.SysNackReported := fun _ hp hst =>
  ⟨_, updateByte_classNack hp hst, updateByte_classNack hp hst, header_reported rfl⟩

/-- Settles O13: a payload length is at most 32, so `pend` does not overflow. -/
theorem cmdHeaderOpensFrame : Obligations.CmdHeaderOpensFrame := by
  intro s b len hst hlen hpos
  have hne : len ≠ 0#6 := by
    rintro rfl
    exact absurd hpos (by decide)
  obtain ⟨-, hle⟩ := payloadLength_bounds ((classify_length hlen).resolve_left hne)
  exact ⟨_, (updateByte_of_wfh b hst).trans (updateHeader_of_cmd hlen hpos),
    ⟨rfl, by simp [State.readBuf_writeBuf]⟩, rfl, rfl, toNat_add_one_of_le hle, by simp,
    fun _ ha => s.buf.read_write_other b ha, rfl, rfl⟩

/-- Settles O17: what is compared with the byte does not depend on that byte. -/
theorem checksumMismatchReported : Obligations.ChecksumMismatchReported := by
  intro s b hst hpend hplen hne
  refine lastByte_reported hst hpend hplen rfl (finishFrame_of_mismatch ?_)
  simpa [computedChecksum_accumulate_last, State.readBuf_accumulate] using hne

/-- Settles O18. -/
theorem selectReported : Obligations.SelectReported := by
  intro s b hst hpend hplen hp hb hclass
  have hfinish := finishFrame_of_match hb (.inl hclass)
  rw [cmdOutcome_of_select hclass] at hfinish
  exact ⟨fun hinv => hinv.plen_of_select hp hclass, lastByte_reported hst hpend hplen rfl hfinish⟩

/-- Settles O19: R6 keeps a WRITE header from being taken for SELECT. -/
theorem writeReported : Obligations.WriteReported := by
  intro s b hst hpend hplen hp hb hclass
  have hfinish := finishFrame_of_match hb (.inr hclass)
  rw [cmdOutcome_of_write hp hclass] at hfinish
  exact lastByte_reported hst hpend hplen rfl hfinish

/-- Settles O22: a terminal outcome leaves the block in WFH (O21) with its catalogue, and there O10
applies. -/
theorem readyAfterTerminalOutcome : Obligations.ReadyAfterTerminalOutcome := by
  intro s t b x h hterminal hinvalid
  obtain ⟨hiff, -⟩ := insufficientDataMeansWfp s t b h
  obtain ⟨hpar, -⟩ := exec_keepsHost h
  have hst : t.st = .wfh := by
    cases hst : t.st with
    | wfh => rfl
    | wfp => exact absurd (hiff.mpr hst) hterminal
  obtain ⟨u, hexec, hreports, hu, -⟩ := invalidHeaderReported t x hst (hpar ▸ hinvalid)
  exact ⟨u, hexec, hreports, hu⟩

/-- Settles O43: the header opens the frame, and the first `k` payload bytes leave it open. -/
theorem frameInProgressReported : Obligations.FrameInProgressReported := by
  intro s h d payload rest k hst hsound hin hk
  obtain ⟨len, hlen, hpayload, hpos, hle, -⟩ := cmdItem_sound hsound
  have hsplit (c : Byte) : payload ++ [c] = payload.take k ++ (payload.drop k ++ [c]) := by
    rw [← List.append_assoc, List.take_append_drop]
  have hfeed : s.inputs = presentUpdate h :: (feed (payload.take k) ++
      (feed (payload.drop k ++ [s.par.checksum.eval (h :: payload) + d]) ++ rest)) := by
    rw [hin, cmdFrame, List.cons_append, hsplit]
    simp only [feed, List.map_cons, List.map_append, List.append_assoc, List.cons_append]
  obtain ⟨u, hopen, hfed⟩ := step_opens_frame hst hlen hpos hle hfeed
  obtain ⟨t, hrun, hfed⟩ := hfed.run_payload hle (by simp; omega)
  rw [List.length_take, min_eq_left hk] at hrun
  exact ⟨t, (runSteps_succ hopen).trans hrun, hfed.reports, hfed.st⟩

/-- Settles O46: the items before `x` end where `x` can begin. -/
theorem streamReportsItsItems : Obligations.StreamReportsItsItems := by
  intro s before x rest hst hp hbefore hx hin
  have hs : AwaitsHeader s.par (feed (before.flatMap (StreamItem.bytes s.par)) ++
      (feed (x.bytes s.par) ++ rest)) s :=
    ⟨hst, rfl, by simpa [feed] using hin⟩
  obtain ⟨u, hrunu, hu⟩ := hs.run_items hp hbefore
  obtain ⟨t, hrunt, hout, ht⟩ := hu.run_item hp hx
  refine ⟨t, ?_, hout, ht.st, ht.inputs⟩
  rw [List.flatMap_append, List.length_append, runSteps_add hrunu]
  simpa using hrunt

end Sys2Proof.Machine

/-! SUPPORT. RESET (42_reset_and_payload_access.md R121): it abandons whatever was in progress, so that the
host can present any message next. -/

namespace Sys2Proof.Machine

/-! ## RESET -/

/-- RESET always succeeds, and no byte of the frame it abandons is erased (R121). -/
theorem execReset_next (s : State) :
    ∃ t, execReset s = .next t ∧ t.st = .wfh ∧ t.buf = s.buf :=
  ⟨_, rfl, rfl, rfl⟩

/-- A step that is presented with RESET, in any state, leads to where a message can begin. -/
theorem step_of_presentReset {s : State} {rest : List PortIn}
    (h : s.inputs = presentReset :: rest) : ∃ t, step s = .next t ∧ AwaitsHeader s.par rest t := by
  have hstep : step s = execReset s.popInput :=
    step_of_reset (q := presentReset) (State.fetch_of_inputs h) rfl
  obtain ⟨t, hreset, hst, -⟩ := execReset_next s.popInput
  obtain ⟨hpar, hinputs⟩ := execReset_keepsHost hreset
  exact ⟨t, hstep.trans hreset, hst, hpar, by simp [hinputs, h]⟩

/-! ## The obligations -/

/-- Settles O23: `execReset_next` for the block, and the host's part stays as with every instruction. -/
theorem resetReturnsToHeader : Obligations.ResetReturnsToHeader := by
  intro s
  obtain ⟨t, hreset, hst, hbuf⟩ := execReset_next s
  exact ⟨t, hreset, hst, fun _ => by rw [hbuf], execReset_keepsHost hreset⟩

/-- Settles O45: the RESET leaves a block that waits for a header, and there O44 applies. -/
theorem frameAfterResetReported : Obligations.FrameAfterResetReported := by
  intro s h d payload rest hp hsound hin
  obtain ⟨u, hreset, hu⟩ := step_of_presentReset hin
  rw [← hu.par] at hp hsound ⊢
  obtain ⟨t, hrun, hreports, hlength, hst, -, -, hview, -⟩ :=
    cmdFrameReported u h d payload rest hu.st hp hsound (hu.par ▸ hu.inputs)
  exact ⟨t, (runSteps_succ hreset).trans hrun, hreports, hlength, hst, hview⟩

end Sys2Proof.Machine

/-! SUPPORT. Refusal, and totality of a run (60_exceptions.md R150, 70_reset_and_hazards.md R180): the only
steps that are refused are those of a payload access outside the window, which a legal input never is. -/

namespace Sys2Proof.Machine

/-! ## What is refused -/

theorem finishFrame_ne_refused (s : State) (r : Refusal) : finishFrame s ≠ .refused r := by
  intro hrefused
  rcases finishFrame_cases s with ⟨-, e⟩ | ⟨-, -, e⟩ | ⟨-, -, -, e⟩ | ⟨-, -, -, e⟩
  all_goals cases e.symm.trans hrefused

/-- Every byte has a meaning in every state (R100, R180). -/
theorem updateByte_ne_refused (b : Byte) (s : State) (r : Refusal) :
    updateByte b s ≠ .refused r := by
  intro hrefused
  cases hst : s.st with
  | wfh =>
    rw [updateByte_of_wfh b hst] at hrefused
    rcases updateHeader_cases b s with ⟨-, e⟩ | ⟨-, -, e⟩ | ⟨-, -, -, e⟩ | ⟨_, -, -, e⟩
    all_goals cases e.symm.trans hrefused
  | wfp =>
    rw [updateByte_of_wfp b hst] at hrefused
    rcases updatePayload_cases b s with ⟨-, e⟩ | ⟨_, -, ⟨-, e⟩ | ⟨-, -, e⟩⟩
    · cases e.symm.trans hrefused
    · cases e.symm.trans hrefused
    · exact finishFrame_ne_refused _ r (e.symm.trans hrefused)

/-- The converse of O5: a step that is refused is a payload access outside the window (R45). -/
theorem step_refused {s : State} {r : Refusal} (h : step s = .refused r) :
    ∃ q, s.fetch = .operation q ∧ (q.op = 0b10#2 ∨ q.op = 0b11#2) ∧ 32 < q.off.toNat := by
  cases hf : s.fetch with
  | hardReset => cases (step_of_hardReset hf).symm.trans h
  | idle => cases (step_of_idle hf).symm.trans h
  | operation q =>
    rcases op_cases q.op with hop | hop | hop | hop
    · exact absurd ((step_of_update hf hop).symm.trans h) (updateByte_ne_refused q.din _ r)
    · cases (step_of_reset hf hop).symm.trans h
    · rcases execPldRd_cases q.off s.popInput with ⟨hoff, -⟩ | ⟨-, e⟩
      · exact ⟨q, rfl, .inl hop, hoff⟩
      · cases e.symm.trans ((step_of_pldRd hf hop).symm.trans h)
    · rcases execPldWr_cases q.off q.din s.popInput with ⟨hoff, -⟩ | ⟨-, e⟩
      · exact ⟨q, rfl, .inr hop, hoff⟩
      · cases e.symm.trans ((step_of_pldWr hf hop).symm.trans h)

/-! ## Legal inputs -/

theorem presented_eq_operation {q q' : PortIn} (h : presented q = .operation q') : q' = q := by
  simp only [presented] at h
  split_ifs at h
  cases h
  rfl

/-- An operation that a step performs is one of the host's inputs. -/
theorem State.mem_inputs_of_fetch {s : State} {q : PortIn} (h : s.fetch = .operation q) :
    q ∈ s.inputs ∧ presented q = .operation q := by
  cases hin : s.inputs with
  | nil => simp [State.fetch, hin] at h
  | cons q' rest =>
    have hpres := (State.fetch_of_inputs hin).symm.trans h
    cases presented_eq_operation hpres
    exact ⟨List.mem_cons_self, hpres⟩

/-- A legal payload access stays inside the window (R44, R45). -/
theorem off_le_of_legalInput {q : PortIn} (hlegal : legalInput q = true)
    (hpres : presented q = .operation q) (hop : q.op = 0b10#2 ∨ q.op = 0b11#2) :
    q.off.toNat ≤ 32 := by
  have hoff : offsetLegal q.off = true := by
    rcases hop with hop | hop
    all_goals simpa [legalInput, hpres, hop] using hlegal
  exact offsetLegal_eq_true.mp hoff

theorem step_ne_refused {s : State} (hlegal : ∀ q ∈ s.inputs, legalInput q = true) (r : Refusal) :
    step s ≠ .refused r := by
  intro hrefused
  obtain ⟨q, hf, hop, hoff⟩ := step_refused hrefused
  obtain ⟨hmem, hpres⟩ := State.mem_inputs_of_fetch hf
  have hle := off_le_of_legalInput (hlegal q hmem) hpres hop
  omega

/-- One step of R180: a sound state with legal inputs has a successor, and that is such a state too. -/
theorem step_next_of_legal {s : State} (hinv : s.Inv)
    (hlegal : ∀ q ∈ s.inputs, legalInput q = true) :
    ∃ t, step s = .next t ∧ t.Inv ∧ ∀ q ∈ t.inputs, legalInput q = true := by
  cases hs : step s with
  | next t =>
    obtain ⟨-, hinputs⟩ := parametersNeverChange s t hs
    exact ⟨t, rfl, stepKeepsInvariant s t hinv hs,
      fun q hq => hlegal q (List.mem_of_mem_tail (hinputs ▸ hq))⟩
  | fault f => exact absurd hs (soundStateNeverFaults s f hinv)
  | refused r => exact absurd hs (step_ne_refused hlegal r)

/-! ## The obligations -/

/-- Settles O34, by induction on the number of steps: each step leads to a state from which the rest of
the run goes on. -/
theorem legalInputsNeverStop : Obligations.LegalInputsNeverStop := by
  intro n
  induction n with
  | zero => exact fun s _ _ => ⟨s, runSteps_zero s⟩
  | succ n ih =>
    intro s hinv hlegal
    obtain ⟨t, hstep, hinv', hlegal'⟩ := step_next_of_legal hinv hlegal
    obtain ⟨u, hrun⟩ := ih t hinv' hlegal'
    exact ⟨u, (runSteps_succ hstep).trans hrun⟩

end Sys2Proof.Machine
